-- ==== Sys2Proof/Word.lean ====
section
/-! DEFINITION. The word types of the VH416: what the control port, the cue link and the TDM port carry as bits.
Pitches, levels and counts are numbers (`Int`, `Nat`), not bits: the manual gives them exact integer arithmetic. -/

namespace Sys2Proof

/-- One byte of the control port (R183) or of the cue link (R137). -/
abbrev Byte := BitVec 8

/-- One 24-bit two's-complement sample of the TDM port (R155). -/
abbrev Sample := BitVec 24

/-- One slot of the TDM port as it stands on the line, 32 bit times, the most significant bit first (R155). -/
abbrev TdmSlot := BitVec 32

/-- A set of pitch classes: bit `k` stands for pitch class `k` (R191). -/
abbrev PitchSet := BitVec 12

/-- A lane, 0 to 3 (chapter 1). -/
abbrev LaneId := Fin 4

/-- A slot of the voice table, 0 to 15 (chapter 3). -/
abbrev Slot := Fin 16

/-- A slot's generation, counted mod 16 (R47): `Fin 16` addition wraps as the manual's does. -/
abbrev Generation := Fin 16

/-- A scene number, 0 to 31 (R109). -/
abbrev SceneId := Fin 32

/-- A pedal, 0 to 3 (R180). -/
abbrev PedalId := Fin 4

end Sys2Proof
end

