-- ==== Sys2Proof/Syntax.lean ====
section
/-! DEFINITION. The commands of the block: one constructor of `Instr` for each row of spec/opcode_table.json.

The VH416 has no program. Its "instructions" are the frames of the control port, the commands such frames carry, and
the events that reach it from the word clock, the analysis units, the cue link, the pedals and the supply. -/

namespace Sys2Proof

/-- What a SEND frame carries after the command code (R185, "Command block" of R191): the declared data-phase length
(byte 1), the six operand bytes (bytes 2 to 7) and the data phase. -/
structure CommandFrame where
  declared : Byte
  operands : Vector Byte 6
  data     : List Byte
  deriving DecidableEq, Repr

/-- A command as the port latches it when a SEND is accepted (R185): its code (byte 0 of the block) and the rest. -/
structure Command where
  code  : Byte
  frame : CommandFrame
  deriving DecidableEq, Repr

/-- A completed analysis result of one lane (R3). `period` is in sixteenths of a sample; it means something only when
`voiced` holds. -/
structure LaneResult where
  voiced     : Bool
  period     : Nat
  confidence : Byte
  deriving DecidableEq, Repr

/-- What RESET_N does (R172). `rises` carries the level of each pedal line at the end of the reset, `true` for closed. -/
inductive ResetPinEdge where
  | falls
  | rises (closed : Vector Bool 4)
  deriving DecidableEq, Repr

/-- A step of RESTART: the frame as sent, and whether the step makes the reset act alone (R173, assumption 22). -/
structure RestartStep where
  frame   : CommandFrame
  actOnly : Bool
  deriving DecidableEq, Repr

/-- The commands and events of spec/opcode_table.json.

* Control port frames (`poll`, `send`, `fetch`, `malformedFrame`). `clocked` is the number of whole bytes the control
  processor clocks after the transaction byte. `resetAfter` is the number of SCLK edges of the frame after which a reset act
  fell into it, `none` for a frame that no reset act fell into (R190, assumption 15).
* Port commands (`unknownCommand` to `readPedals`) carry the frame as sent. The step is the act in which the port
  takes the command and completes it (R186); see `runCommand` in Machine/Ops.lean for its meeting with SEND. `actOnly` of
  RESTART: the step makes the reset act, and a later RESTART step writes the command's own result (R173, assumption 22).
* Lane events carry the lane and its result (R3).
* `powerOn` carries the level of each pedal line at the end of the reset, `true` for closed (R180).
* The cue-link rows STRAY, PARTIAL_MESSAGE and CUE_LINK_MESSAGE carry the samples the receiver takes of CUE_RX at the middles of
  the bit times, oldest first, `true` for high, up to and with the stop bit that completes the row's byte (R137,
  assumption 20). FRAMING carries none: its byte is discarded, whatever its data bits.
* `pedal` carries the samples of one pedal line taken every 4 ms, oldest first, `true` for a line that reads closed. -/
inductive Instr where
  /-- POLL (R184). -/
  | poll (clocked : Nat) (resetAfter : Option Nat)
  /-- SEND (R185): the whole bytes after the transaction byte; `partByte` when the frame ended inside a byte. -/
  | send (bytes : List Byte) (partByte : Bool) (resetAfter : Option Nat)
  /-- FETCH (R187). -/
  | fetch (clocked : Nat) (resetAfter : Option Nat)
  /-- MALFORMED_FRAME (R183): the unknown transaction byte, or `none` for fewer than eight SCLK edges. -/
  | malformedFrame (first : Option Byte) (clocked : Nat) (resetAfter : Option Nat)
  /-- UNKNOWN_COMMAND (R186). -/
  | unknownCommand (code : Byte) (f : CommandFrame)
  /-- READ_STATUS, code 01h (R189). -/
  | readStatus (f : CommandFrame)
  /-- READ_REFUSAL, code 02h (R188). -/
  | readRefusal (f : CommandFrame)
  /-- FETCH_NOTICE, code 03h (R177). -/
  | fetchNotice (f : CommandFrame)
  /-- SET_NOTICES, code 04h (R178). -/
  | setNotices (f : CommandFrame)
  /-- RESTART, code 05h (R173). -/
  | restart (r : RestartStep)
  /-- SET_LANE_CHARACTERISTICS, code 10h (R21). -/
  | setLaneCharacteristics (f : CommandFrame)
  /-- READ_LANE, code 11h (R23). -/
  | readLane (f : CommandFrame)
  /-- READ_LAST_CORRECTION, code 12h (R18). -/
  | readLastCorrection (f : CommandFrame)
  /-- LANE_SETTINGS, code 13h (R99). -/
  | laneSettings (f : CommandFrame)
  /-- CREATE_VOICE, code 20h (R62, R63). -/
  | createVoice (f : CommandFrame)
  /-- MODIFY_VOICE, code 21h (R64). -/
  | modifyVoice (f : CommandFrame)
  /-- RETIRE_VOICE, code 22h (R66). -/
  | retireVoice (f : CommandFrame)
  /-- RETIRE_LANE, code 23h (R69). -/
  | retireLane (f : CommandFrame)
  /-- READ_VOICE, code 24h (R70). -/
  | readVoice (f : CommandFrame)
  /-- FIND_VOICE, code 25h (R71). -/
  | findVoice (f : CommandFrame)
  /-- LIST_VOICES, code 26h (R72). -/
  | listVoices (f : CommandFrame)
  /-- TEST_SETTLED, code 27h (R73). -/
  | testSettled (f : CommandFrame)
  /-- SET_KEY_MAP, code 30h (R106). -/
  | setKeyMap (f : CommandFrame)
  /-- READ_KEY_MAP, code 31h (R107). -/
  | readKeyMap (f : CommandFrame)
  /-- LOAD_SCENE, code 32h (R110, R111). -/
  | loadScene (f : CommandFrame)
  /-- READ_SCENE, code 33h (R113). -/
  | readScene (f : CommandFrame)
  /-- CLEAR_SCENE, code 34h (R112). -/
  | clearScene (f : CommandFrame)
  /-- TAKE_SCENE, code 35h (R114). -/
  | takeScene (f : CommandFrame)
  /-- LOAD_SETLIST, code 36h (R120). -/
  | loadSetlist (f : CommandFrame)
  /-- READ_SETLIST, code 37h (R121). -/
  | readSetlist (f : CommandFrame)
  /-- ADVANCE_SETLIST, code 38h (R122, R123). -/
  | advanceSetlist (f : CommandFrame)
  /-- ARM_CUE, code 40h (R127, R128). -/
  | armCue (f : CommandFrame)
  /-- DISARM_CUE, code 41h (R129). -/
  | disarmCue (f : CommandFrame)
  /-- FIRE_CUE, code 42h (R132). -/
  | fireCue (f : CommandFrame)
  /-- READ_CHORD_SET, code 50h (R151). -/
  | readChordSet (f : CommandFrame)
  /-- CLEAR_CHORD_SET, code 51h (R150). -/
  | clearChordSet (f : CommandFrame)
  /-- SET_CUE_LINK, code 52h (R152). -/
  | setCueLink (f : CommandFrame)
  /-- SET_PEDALS, code 60h (R182). -/
  | setPedals (f : CommandFrame)
  /-- READ_PEDALS, code 61h (R182). -/
  | readPedals (f : CommandFrame)
  /-- LANE_RESULT (R3 to R20, R51): a lane's analysis result completes. -/
  | laneResult (lane : LaneId) (result : LaneResult)
  /-- HOLD_EXPIRY (R10): a lane result that ends the hold. -/
  | holdExpiry (lane : LaneId) (result : LaneResult)
  /-- LANE_LOST (R12): a lane result at which REACQUIRE gives up. -/
  | laneLost (lane : LaneId) (result : LaneResult)
  /-- FRAME_BOUNDARY (R167). -/
  | frameBoundary
  /-- CUE_EXPIRED (R131). -/
  | cueExpired
  /-- CUT_FADE_END (R159): the fade of this slot's render channel ends. -/
  | cutFadeEnd (slot : Slot)
  /-- CLOCK_LOST (R168). -/
  | clockLost
  /-- SETTLING_START (R169). -/
  | settlingStart
  /-- SETTLING_ABORT (R169). -/
  | settlingAbort
  /-- CLOCK_BACK (R170). -/
  | clockBack
  /-- POWER_ON (R172). -/
  | powerOn (closed : Vector Bool 4)
  /-- RESET_PIN (R172): RESET_N falls, or rises. -/
  | resetPin (edge : ResetPinEdge)
  /-- FRAMING of the cue link (R138): a byte whose stop bit samples low. -/
  | framing
  /-- STRAY (R139): a byte that is discarded, or discards a partial message, as stray. -/
  | stray (samples : List Bool)
  /-- CUE_LINK_MESSAGE (R139, R140): the check byte that completes a message. -/
  | cueLinkMessage (samples : List Bool)
  /-- KEY_DOWN taken by the handler from the FIFO head (R147). -/
  | keyDown
  /-- KEY_UP taken by the handler (R148). -/
  | keyUp
  /-- KEYS_CLEAR taken by the handler (R149). -/
  | keysClear
  /-- LATCH taken by the handler (R149). -/
  | latch
  /-- SCENE_CUE taken by the handler (R143, R144). -/
  | sceneCue
  /-- SETLIST_STEP taken by the handler (R143, R144, R123). -/
  | setlistStep
  /-- CUE_FIRE taken by the handler (R132, R143). -/
  | cueFire
  /-- PEDAL (R180, R181). -/
  | pedal (pedal : PedalId) (samples : List Bool)
  /-- PARTIAL_MESSAGE (R139): a byte that begins or extends a partial message. -/
  | partialMessage (samples : List Bool)
  /-- LINE_HIGH_BIT_TIME (R138). -/
  | lineHighBitTime
  /-- SUPPLY_BELOW_THRESHOLD (R172). -/
  | supplyBelowThreshold
  deriving DecidableEq, Repr

end Sys2Proof
end

