-- ==== Sys2Proof/Decode.lean ====
section
/-! DEFINITION. Decoding. spec/opcode_table.json gives no row any bits, so no table word spells a command. What the
manual does encode is the command block of a SEND frame: `commandTable` is the command summary of R191, and
`Command.toInstr` and `Instr.toCommand?` go between a latched command and the row that takes it. -/

namespace Sys2Proof

/-- The command a table word spells: none, since no row of spec/opcode_table.json carries bits (assumption 4). -/
def decodeTableWord (_nbits _w : Nat) : Option Instr := none

/-- The command summary of R191: code, and the data-phase length the command requires. -/
def commandTable : List (Byte × Nat) :=
  [(0x01, 0), (0x02, 0), (0x03, 0), (0x04, 0), (0x05, 0),
   (0x10, 12), (0x11, 0), (0x12, 0), (0x13, 0),
   (0x20, 16), (0x21, 0), (0x22, 0), (0x23, 0), (0x24, 0), (0x25, 0), (0x26, 0), (0x27, 0),
   (0x30, 0), (0x31, 0), (0x32, 148), (0x33, 0), (0x34, 0), (0x35, 0), (0x36, 64), (0x37, 0), (0x38, 0),
   (0x40, 8), (0x41, 0), (0x42, 0),
   (0x50, 0), (0x51, 0), (0x52, 0),
   (0x60, 8), (0x61, 0)]

/-- The data-phase length the command summary gives for a code; `none` for a code that names no command (R186). -/
def requiredLength (code : Byte) : Option Nat := commandTable.lookup code

/-- The row that takes a latched command, whole: by its code, UNKNOWN_COMMAND where the code names no command (R186, R191). -/
def Command.toInstr (c : Command) : Instr :=
  if c.code = 0x01 then .readStatus c.frame
  else if c.code = 0x02 then .readRefusal c.frame
  else if c.code = 0x03 then .fetchNotice c.frame
  else if c.code = 0x04 then .setNotices c.frame
  else if c.code = 0x05 then .restart { frame := c.frame, actOnly := false }
  else if c.code = 0x10 then .setLaneCharacteristics c.frame
  else if c.code = 0x11 then .readLane c.frame
  else if c.code = 0x12 then .readLastCorrection c.frame
  else if c.code = 0x13 then .laneSettings c.frame
  else if c.code = 0x20 then .createVoice c.frame
  else if c.code = 0x21 then .modifyVoice c.frame
  else if c.code = 0x22 then .retireVoice c.frame
  else if c.code = 0x23 then .retireLane c.frame
  else if c.code = 0x24 then .readVoice c.frame
  else if c.code = 0x25 then .findVoice c.frame
  else if c.code = 0x26 then .listVoices c.frame
  else if c.code = 0x27 then .testSettled c.frame
  else if c.code = 0x30 then .setKeyMap c.frame
  else if c.code = 0x31 then .readKeyMap c.frame
  else if c.code = 0x32 then .loadScene c.frame
  else if c.code = 0x33 then .readScene c.frame
  else if c.code = 0x34 then .clearScene c.frame
  else if c.code = 0x35 then .takeScene c.frame
  else if c.code = 0x36 then .loadSetlist c.frame
  else if c.code = 0x37 then .readSetlist c.frame
  else if c.code = 0x38 then .advanceSetlist c.frame
  else if c.code = 0x40 then .armCue c.frame
  else if c.code = 0x41 then .disarmCue c.frame
  else if c.code = 0x42 then .fireCue c.frame
  else if c.code = 0x50 then .readChordSet c.frame
  else if c.code = 0x51 then .clearChordSet c.frame
  else if c.code = 0x52 then .setCueLink c.frame
  else if c.code = 0x60 then .setPedals c.frame
  else if c.code = 0x61 then .readPedals c.frame
  else .unknownCommand c.code c.frame

/-- The command block a port-command row stands for, with its code by the command summary; `none` for a row that is no
port command. -/
def Instr.toCommand? : Instr → Option Command
  | .unknownCommand code f => some ⟨code, f⟩
  | .readStatus f => some ⟨0x01, f⟩
  | .readRefusal f => some ⟨0x02, f⟩
  | .fetchNotice f => some ⟨0x03, f⟩
  | .setNotices f => some ⟨0x04, f⟩
  | .restart r => some ⟨0x05, r.frame⟩
  | .setLaneCharacteristics f => some ⟨0x10, f⟩
  | .readLane f => some ⟨0x11, f⟩
  | .readLastCorrection f => some ⟨0x12, f⟩
  | .laneSettings f => some ⟨0x13, f⟩
  | .createVoice f => some ⟨0x20, f⟩
  | .modifyVoice f => some ⟨0x21, f⟩
  | .retireVoice f => some ⟨0x22, f⟩
  | .retireLane f => some ⟨0x23, f⟩
  | .readVoice f => some ⟨0x24, f⟩
  | .findVoice f => some ⟨0x25, f⟩
  | .listVoices f => some ⟨0x26, f⟩
  | .testSettled f => some ⟨0x27, f⟩
  | .setKeyMap f => some ⟨0x30, f⟩
  | .readKeyMap f => some ⟨0x31, f⟩
  | .loadScene f => some ⟨0x32, f⟩
  | .readScene f => some ⟨0x33, f⟩
  | .clearScene f => some ⟨0x34, f⟩
  | .takeScene f => some ⟨0x35, f⟩
  | .loadSetlist f => some ⟨0x36, f⟩
  | .readSetlist f => some ⟨0x37, f⟩
  | .advanceSetlist f => some ⟨0x38, f⟩
  | .armCue f => some ⟨0x40, f⟩
  | .disarmCue f => some ⟨0x41, f⟩
  | .fireCue f => some ⟨0x42, f⟩
  | .readChordSet f => some ⟨0x50, f⟩
  | .clearChordSet f => some ⟨0x51, f⟩
  | .setCueLink f => some ⟨0x52, f⟩
  | .setPedals f => some ⟨0x60, f⟩
  | .readPedals f => some ⟨0x61, f⟩
  | .poll _ _ => none
  | .send _ _ _ => none
  | .fetch _ _ => none
  | .malformedFrame _ _ _ => none
  | .laneResult _ _ => none
  | .holdExpiry _ _ => none
  | .laneLost _ _ => none
  | .frameBoundary => none
  | .cueExpired => none
  | .cutFadeEnd _ => none
  | .clockLost => none
  | .settlingStart => none
  | .settlingAbort => none
  | .clockBack => none
  | .powerOn _ => none
  | .resetPin _ => none
  | .framing => none
  | .stray _ => none
  | .cueLinkMessage _ => none
  | .keyDown => none
  | .keyUp => none
  | .keysClear => none
  | .latch => none
  | .sceneCue => none
  | .setlistStep => none
  | .cueFire => none
  | .pedal _ _ => none
  | .partialMessage _ => none
  | .lineHighBitTime => none
  | .supplyBelowThreshold => none

/-- The bytes of a SEND frame after its transaction byte: the eight-byte block and the data phase (R185). -/
def Command.bytes (c : Command) : List Byte :=
  c.code :: c.frame.declared :: (c.frame.operands.toList ++ c.frame.data)

/-- The command a SEND frame's bytes hold: `none` unless the frame carried exactly nine bytes (the transaction byte
among them) and the declared length (R185, check 2). -/
def Command.ofBytes : List Byte → Option Command
  | code :: declared :: b2 :: b3 :: b4 :: b5 :: b6 :: b7 :: data =>
    if data.length = declared.toNat then some ⟨code, declared, #v[b2, b3, b4, b5, b6, b7], data⟩ else none
  | _ => none

end Sys2Proof
end

