-- ==== Sys2Proof/Config.lean ====
section
/-! DEFINITION. The part's fixed counts, and the free values: what the manual leaves open or what comes from outside the
part. A free value has no body, so nothing can be proved of it; every claim holds whatever it is. -/

namespace Sys2Proof

/-- FREE VALUE (assumption 1): the 32 bits on TDM input slot `slot` in word-clock period `n`. Audio from the stage, which
no command carries (R155). -/
opaque Config.tdmInput (n : Nat) (slot : Fin 8) : TdmSlot

/-- FREE VALUE (assumption 2): the shifter output y_v, a 24-bit value, from the phase the shifter has kept, the ratio_j of the
sample and the delayed input sample. R156 gives what the shifter works on and no algorithm. -/
opaque Config.shifterOutput (phase ratio : Nat) (x : Sample) : Sample

/-- FREE VALUE (assumption 2): the phase the shifter keeps after that sample (R156). -/
opaque Config.shifterPhase (phase ratio : Nat) (x : Sample) : Nat

/-- FREE VALUE (assumption 3): at the `n`-th act that frees several voices in an order the manual leaves open (R51, R61),
which of the freed voices is taken last. -/
opaque Config.lastFreed (n : Nat) : Nat

/-- Word-clock periods in a frame (R167) and samples in a ramp (R156). -/
def Config.frameLength : Nat := 256

/-- Steady edges that complete the settling (R169). -/
def Config.settleLength : Nat := 512

/-- SYSCLK periods in 64 µs, the gap timer's limit (chapter 10.2). -/
def Config.gapLimit : Nat := 1024

/-- SCLK edges of a byte of the control port, and data bits of a byte of the cue link (R183, R137). -/
def Config.byteBits : Nat := 8

/-- Places in the change queue (R89). -/
def Config.queueSize : Nat := 16

/-- Places in the cue link's receive FIFO (R142). -/
def Config.fifoSize : Nat := 16

/-- Entries of the chord set (R146). -/
def Config.chordSize : Nat := 8

end Sys2Proof
end

