-- ==== Sys2Proof/Machine/State.lean ====
section
/-! DEFINITION. The state of the VH416 as plain data: every record, list, buffer, counter, mode and pin the manual gives the
part, the model's own counters, and the queue of commands that wait. -/

namespace Sys2Proof.Machine

/-! ### Lanes (chapter 1) -/

/-- The four settings of a lane (R1). -/
structure LaneSettings where
  on     : Bool
  bypass : Bool
  freeze : Bool
  dry    : Nat
  deriving DecidableEq, Repr

/-- The nine characteristics of a lane (R21). -/
structure LaneChars where
  lowLimit        : Int
  highLimit       : Int
  threshold       : Nat
  hysteresis      : Nat
  confirmFrames   : Nat
  octaveWindow    : Nat
  octavePersist   : Nat
  holdFrames      : Nat
  reacquireFrames : Nat
  deriving DecidableEq, Repr

/-- Tracking states (section 1.3). -/
inductive Tracking where
  | off | search | locked | hold | reacquire
  deriving DecidableEq, Repr

/-- Last result class (R4, R23). -/
inductive ResultClass where
  | none | voiced | notVoiced | lowConfidence | periodRange | outOfLimits
  deriving DecidableEq, Repr

/-- Direction of an octave jump (R15). -/
inductive Direction where
  | up | down
  deriving DecidableEq, Repr

/-- A lane's last-correction record (R17). -/
structure Correction where
  raw          : Int
  corrected    : Int
  direction    : Direction
  resultNumber : Nat
  valid        : Bool
  deriving DecidableEq, Repr

/-- One lane. `p`, `n` and `d` are P, N_cur and D; they are valid in LOCKED, HOLD and REACQUIRE and stand at 0
otherwise. `due` holds while the analysis of the frame that ended at the latest boundary has not completed (R168). -/
structure Lane where
  settings        : LaneSettings
  tracking        : Tracking
  p               : Int
  n               : Int
  d               : Int
  candidate       : Option Int
  confirmCount    : Nat
  octaveLength    : Nat
  octaveDirection : Direction
  counter         : Nat
  resultCount     : Nat
  lastConfidence  : Byte
  lastClass       : ResultClass
  correction      : Correction
  correctionCount : Nat
  chars           : LaneChars
  due             : Bool
  deriving DecidableEq, Repr

/-! ### Voices (chapters 2 to 4) -/

/-- Rule kinds (R44). -/
inductive RuleKind where
  | scale | fixed | chord | pinned
  deriving DecidableEq, Repr

/-- Groups (R44). -/
inductive Group where
  | foreground | background
  deriving DecidableEq, Repr

/-- Owners (R48). -/
inductive Owner where
  | control | scene
  deriving DecidableEq, Repr

/-- The template part of a voice record (R44). -/
structure Template where
  tag      : Nat
  lane     : LaneId
  rule     : RuleKind
  operand  : Int
  fallback : Int
  follow   : Nat
  detune   : Int
  lo       : Nat
  hi       : Nat
  glide    : Nat
  level    : Nat
  pan      : Nat
  group    : Group
  attack   : Nat
  release  : Nat
  deriving DecidableEq, Repr

/-- Voice states (section 3.2). -/
inductive VoiceState where
  | free | pending | acquiring | active | holding | releasing
  deriving DecidableEq, Repr

/-- A voice record (R44, R46): the template part and the working part. -/
structure Voice where
  template     : Template
  state        : VoiceState
  generation   : Generation
  owner        : Owner
  fresh        : Bool
  frozen       : Option Int
  nt           : Int
  t            : Int
  o            : Int
  delta        : Int
  ratio        : Nat
  clamped      : Bool
  fallbackUsed : Bool
  levelTarget  : Nat
  level        : Nat
  deriving DecidableEq, Repr

/-- A handle as a command carries it: slot and generation (R47). -/
structure Handle where
  slot       : Slot
  generation : Generation
  deriving DecidableEq, Repr

/-! ### Key map, scenes and the setlist (chapter 6) -/

/-- The key map (R105). Its degree list is derived: `degreeList`. -/
structure KeyMap where
  tonic   : Fin 12
  members : PitchSet
  ref     : Int
  deriving DecidableEq, Repr

/-- Take modes (R109). -/
inductive TakeMode where
  | keepControl | clearAll
  deriving DecidableEq, Repr

/-- A scene's settings for one lane (R109): a scene carries no freeze. -/
structure SceneLane where
  on     : Bool
  bypass : Bool
  dry    : Nat
  deriving DecidableEq, Repr

/-- A LOADED scene (R109). `templates` are the templates in use, so their number is the template count. -/
structure Scene where
  keyMap    : KeyMap
  takeMode  : TakeMode
  lanes     : Vector SceneLane 4
  templates : List Template
  deriving DecidableEq, Repr

/-- The setlist (R120). `entries` are the entries below the length, so their number is the length. -/
structure Setlist where
  entries  : List SceneId
  position : Nat
  wrap     : Bool
  deriving DecidableEq, Repr

/-! ### The change queue (chapter 5) -/

/-- Retire modes (R66). -/
inductive RetireMode where
  | release | kill
  deriving DecidableEq, Repr

/-- Owner filters (R69). -/
inductive OwnerFilter where
  | all | control | scene
  deriving DecidableEq, Repr

/-- What a MODIFY entry writes: one field, or one of the two pairs, as it will be stored (R64). -/
inductive Modification where
  | rule (kind : RuleKind) (operand : Int)
  | fallback (degrees : Int)
  | follow (v : Nat)
  | detune (cents : Int)
  | range (lo hi : Nat)
  | glide (v : Nat)
  | level (v : Nat)
  | pan (v : Nat)
  | group (g : Group)
  | attack (v : Nat)
  | release (v : Nat)
  deriving DecidableEq, Repr

/-- An entry of the change queue (R89). -/
inductive Entry where
  | create (h : Handle)
  | modify (h : Handle) (m : Modification)
  | retire (h : Handle) (mode : RetireMode)
  | retireLane (lane : LaneId) (mode : RetireMode) (filter : OwnerFilter)
  | laneSettings (lane : LaneId) (settings : LaneSettings)
  | keyMap (k : KeyMap)
  | take (scene : SceneId)
  deriving DecidableEq, Repr

/-- The source of a request to stage (R90). It is not kept in the entry. -/
inductive Source where
  | control | pedal | cueLink | armedCue
  deriving DecidableEq, Repr

/-! ### The armed cue (chapter 7) -/

/-- What the cue does at its timeout (R126). -/
inductive ExpiryAction where
  | take | drop
  deriving DecidableEq, Repr

/-- The armed cue's record (R126); `armed` is its state, ARMED or IDLE. -/
structure ArmedCue where
  armed     : Bool
  scene     : SceneId
  lane      : LaneId
  matchSet  : PitchSet
  timeout   : Nat
  action    : ExpiryAction
  remaining : Nat
  deriving DecidableEq, Repr

/-! ### The cue link and the chord set (chapter 8) -/

/-- A good message of the cue link (section 8.2). -/
inductive CueMessage where
  | keyDown (note : Nat)
  | keyUp (note : Nat)
  | keysClear
  | latch (on : Bool)
  | sceneCue (scene : SceneId)
  | setlistStep (forward : Bool)
  | cueFire
  deriving DecidableEq, Repr

/-- The five fault counts (R141). -/
structure FaultCounts where
  stray   : Nat
  framing : Nat
  check   : Nat
  content : Nat
  overrun : Nat
  deriving DecidableEq, Repr

/-- What the receiver does with its line (R137, R138): it waits for the line to be high for one bit time, after a framing
fault or a reset (R154); it is idle; or it has found a start bit and holds the data bits sampled since, oldest first. -/
inductive Line where
  | waitHigh
  | idle
  | receiving (bits : List Bool)
  deriving DecidableEq, Repr

/-- The receiver. `line` holds the byte in progress, `partialBytes` the partial message. `headWaits` marks a FIFO head that has
been tried and waits for a place in the change queue (R144). -/
structure CueLink where
  line         : Line
  partialBytes : List Byte
  fifo         : List CueMessage
  headWaits    : Bool
  hold         : Bool
  faults       : FaultCounts
  deriving DecidableEq, Repr

/-- An entry of the chord set (R146). -/
structure ChordEntry where
  note : Nat
  down : Bool
  deriving DecidableEq, Repr

/-- The chord set, oldest first, and latch mode (R146). -/
structure ChordSet where
  entries : List ChordEntry
  latch   : Bool
  deriving DecidableEq, Repr

/-! ### Rendering and mixing (chapter 9) -/

/-- Render channel states (R156). -/
inductive ChannelState where
  | silent | playing | cutting
  deriving DecidableEq, Repr

/-- A render channel (R156). `lane` is the source lane it shifts and feeds, and `nextLane` the one handed over, waiting for the
next ramp with the other next values (R157, assumption 25). `phase` is what the shifter keeps from sample to sample and `y` its
output y_v at the latest sample made; a SILENT channel keeps none and makes none, and both stand at 0 (assumption 2). -/
structure Channel where
  state      : ChannelState
  lane       : LaneId
  startGain  : Nat
  endGain    : Nat
  startRatio : Nat
  endRatio   : Nat
  startPan   : Nat
  endPan     : Nat
  nextGain   : Nat
  nextRatio  : Nat
  nextPan    : Nat
  nextLane   : LaneId
  position   : Nat
  phase      : Nat
  y          : Sample
  deriving DecidableEq, Repr

/-- A mixer gain with its ramp (R161): start, target and the samples made since the ramp began. -/
structure Ramp where
  start    : Nat
  target   : Nat
  position : Nat
  deriving DecidableEq, Repr

/-- A lane's mixer: the dry gain and the bypass gain β (R161). -/
structure Mixer where
  dry    : Ramp
  bypass : Ramp
  deriving DecidableEq, Repr

/-- The TDM side (R155): each lane's delay line, oldest sample first, and the eight output slots of the latest
word-clock period, each with its 32 bits. -/
structure Audio where
  delay : Vector (List Sample) 4
  out   : Vector TdmSlot 8
  deriving DecidableEq, Repr

/-! ### Word clock supervision (chapter 10) -/

/-- Clock states (section 10.2). -/
inductive ClockState where
  | present | lost | settling
  deriving DecidableEq, Repr

/-- Reset causes (R172). -/
inductive ResetCause where
  | powerOn | resetPin | restartCommand
  deriving DecidableEq, Repr

/-- The word clock supervisor (section 10.2, R172). `gap` is in SYSCLK periods. `countdownTaken` is the model's own
(assumption 9): the armed cue's countdown of the boundary at hand has been taken, as a CUE_EXPIRED step. -/
structure Supervisor where
  state          : ClockState
  gap            : Nat
  settle         : Nat
  period         : Nat
  frame          : Nat
  cause          : ResetCause
  countdownTaken : Bool
  deriving DecidableEq, Repr

/-! ### Notices and pedals (chapter 11) -/

/-- The seventeen notice kinds, in the order of their numbers (R175). -/
inductive NoticeKind where
  | restarted | clockLost | clockBack | laneLost | laneLocked | voiceStolen | voiceFreed | stageDropped | sceneTaken
  | sceneShort | takeFailed | cueFired | cueExpired | setlistEnd | pedal | cueLinkFault | queueOverflow
  deriving DecidableEq, Repr

/-- A notice record (R175); `urgent` is its group. -/
structure Notice where
  pending : Bool
  count   : Nat
  subject : Nat
  enabled : Bool
  urgent  : Bool
  deriving DecidableEq, Repr

/-- Pedal bindings (R181). -/
inductive Binding where
  | none | setlistNext | setlistPrev | freezeToggle (lane : LaneId) | bypassToggle (lane : LaneId) | fireCue | chordClear
  deriving DecidableEq, Repr

/-- A pedal (R180, R181): its binding, its held state (`closed`), and whether one differing sample waits for its
second. -/
structure Pedal where
  binding   : Binding
  closed    : Bool
  differing : Bool
  deriving DecidableEq, Repr

/-! ### The control port (chapter 12) -/

/-- Completion bytes (R186). -/
inductive Completion where
  | none | done | refused
  deriving DecidableEq, Repr

/-- A result (R186); its length is the number of its bytes. -/
structure CommandResult where
  completion : Completion
  bytes      : List Byte
  deriving DecidableEq, Repr

/-- The refusal record's four bytes (R188, "Refusal record" of R191). -/
structure RefusalRecord where
  kind    : Byte
  code    : Byte
  command : Byte
  detail  : Byte
  deriving DecidableEq, Repr

/-- The control port (R184, R186, R188). EXECUTING is set while `executing` holds a latched command, and ACCEPTING is
its opposite. `resetActMade` holds while the port executes a RESTART whose reset act has been made and whose result has not been
written (R173). `sdo` is what SDO carried in the latest frame, byte by byte. -/
structure Port where
  executing    : Option Command
  resetActMade : Bool
  resultReady  : Bool
  overrun      : Bool
  framing      : Bool
  result       : CommandResult
  refusal      : RefusalRecord
  sdo          : List Byte
  deriving DecidableEq, Repr

/-! ### The whole machine -/

/-- What holds the part in reset (R172): nothing; RESET_N low with the supply up; the supply below threshold, with the level of
RESET_N; or RESET_N still low after the supply came up. -/
inductive Hold where
  | running
  | pin
  | supply (resetNLow : Bool)
  | pinAfterSupply
  deriving DecidableEq, Repr

/-- The state of the part. `hold` says what holds it in reset (R172). `sampleNo` and `choiceNo` are the
model's own counters: the arguments of the free values of Config. `pending` is the queue of commands that wait. -/
structure State where
  lanes        : Vector Lane 4
  voices       : Vector Voice 16
  ageList      : List Slot
  releaseList  : List Slot
  queue        : List Entry
  keyMap       : KeyMap
  scenes       : Vector (Option Scene) 32
  currentScene : Option SceneId
  setlist      : Setlist
  cue          : ArmedCue
  link         : CueLink
  chord        : ChordSet
  channels     : Vector Channel 16
  mixers       : Vector Mixer 4
  audio        : Audio
  clock        : Supervisor
  notices      : Vector Notice 17
  pedals       : Vector Pedal 4
  port         : Port
  hold         : Hold
  sampleNo     : Nat
  choiceNo     : Nat
  pending      : List Instr
  deriving DecidableEq, Repr

/-- Whether a hard reset lasts (R172). -/
def State.inReset (s : State) : Bool := s.hold ≠ .running

/-- The machine never stops with a fault: the manual gives every command and event of the table an effect in every
state, or says that it has none. No constructor, so no meaning can answer a fault. -/
inductive Fault where
  deriving DecidableEq, Repr

/-- Why the model has no meaning for a command. -/
inductive Refusal where
  /-- Raised by `exec` alone, for a row of the table that has no meaning yet; safe. No arm raises it now. -/
  | notModelled (mnemonic : String)
  deriving DecidableEq, Repr

/-! ### Values after a hard reset -/

/-- The hard-reset defaults of R21. -/
def LaneChars.default : LaneChars :=
  { lowLimit := 2251, highLimit := 7823, threshold := 96, hysteresis := 15, confirmFrames := 2, octaveWindow := 60,
    octavePersist := 3, holdFrames := 24, reacquireFrames := 48 }

/-- A cleared last-correction record (R25). -/
def Correction.cleared : Correction :=
  { raw := 0, corrected := 0, direction := .up, resultNumber := 0, valid := false }

/-- A lane after a hard reset (R25). -/
def Lane.reset : Lane :=
  { settings := { on := false, bypass := false, freeze := false, dry := 4096 }, tracking := .off, p := 0, n := 0, d := 0,
    candidate := none, confirmCount := 0, octaveLength := 0, octaveDirection := .up, counter := 0, resultCount := 0,
    lastConfidence := 0, lastClass := .none, correction := .cleared, correctionCount := 0, chars := .default,
    due := false }

/-- The template part of zeros (R74). -/
def Template.zero : Template :=
  { tag := 0, lane := 0, rule := .scale, operand := 0, fallback := 0, follow := 0, detune := 0, lo := 0, hi := 0,
    glide := 0, level := 0, pan := 0, group := .foreground, attack := 0, release := 0 }

/-- A FREE slot of a given generation, its working part at the allocation values of R46 and its template zero (R74). -/
def Voice.freeSlot (generation : Generation) : Voice :=
  { template := .zero, state := .free, generation := generation, owner := .control, fresh := false, frozen := none,
    nt := 0, t := 0, o := 0, delta := 0, ratio := 65536, clamped := false, fallbackUsed := false, levelTarget := 0,
    level := 0 }

/-- C major (R108). -/
def KeyMap.cMajor : KeyMap := { tonic := 0, members := 0xAB5, ref := 0 }

/-- The armed cue after a hard reset (R136). -/
def ArmedCue.reset : ArmedCue :=
  { armed := false, scene := 0, lane := 0, matchSet := 0, timeout := 0, action := .drop, remaining := 0 }

/-- Fault counts of zero (R154). -/
def FaultCounts.zero : FaultCounts := { stray := 0, framing := 0, check := 0, content := 0, overrun := 0 }

/-- The receiver after either reset (R154). -/
def CueLink.reset : CueLink :=
  { line := .waitHigh, partialBytes := [], fifo := [], headWaits := false, hold := false, faults := .zero }

/-- A render channel after a hard reset (R166). -/
def Channel.reset : Channel :=
  { state := .silent, lane := 0, startGain := 0, endGain := 0, startRatio := 65536, endRatio := 65536, startPan := 0,
    endPan := 0, nextGain := 0, nextRatio := 65536, nextPan := 0, nextLane := 0, position := 0, phase := 0, y := 0 }

/-- A gain of 0 with no ramp in progress (R166). -/
def Ramp.zero : Ramp := { start := 0, target := 0, position := 256 }

/-- A delay line of 256 zero samples for each lane, and outputs of 0 (R166). -/
def Audio.reset : Audio :=
  { delay := Vector.replicate 4 (List.replicate 256 0), out := Vector.replicate 8 0 }

/-- A notice record after a hard reset, in its default group (R179). -/
def Notice.reset (urgent : Bool) : Notice :=
  { pending := false, count := 0, subject := 0, enabled := true, urgent := urgent }

/-- The notice records after a hard reset: the default groups of R175. -/
def Notice.resetAll : Vector Notice 17 :=
  #v[.reset true, .reset true, .reset false, .reset false, .reset false, .reset false, .reset false, .reset false,
     .reset false, .reset true, .reset true, .reset false, .reset false, .reset false, .reset false, .reset false,
     .reset true]

/-- No result: NONE with length 0 (R190). -/
def CommandResult.cleared : CommandResult := { completion := .none, bytes := [] }

/-- The refusal record NONE (R188, R190). -/
def RefusalRecord.cleared : RefusalRecord := { kind := 0, code := 0, command := 0, detail := 0 }

/-- The port after a hard reset (R190). -/
def Port.reset : Port :=
  { executing := none, resetActMade := false, resultReady := false, overrun := false, framing := false, result := .cleared,
    refusal := .cleared, sdo := [] }

/-- The machine right after a power-on reset has ended (R25, R74, R87, R103, R108, R125, R136, R154, R166, R171, R172,
R179, R180, R182, R190): RESTARTED is pending with the cause as subject, the clock is LOST. The pedal lines read open
(assumption 5, DESIGN CHOICE: the manual takes the held states from the lines' first sample). -/
def State.reset : State :=
  { lanes := Vector.replicate 4 .reset
    voices := Vector.replicate 16 (.freeSlot 0)
    ageList := []
    releaseList := []
    queue := []
    keyMap := .cMajor
    scenes := Vector.replicate 32 none
    currentScene := none
    setlist := { entries := [], position := 0, wrap := false }
    cue := .reset
    link := .reset
    chord := { entries := [], latch := false }
    channels := Vector.replicate 16 .reset
    mixers := Vector.replicate 4 { dry := .zero, bypass := .zero }
    audio := .reset
    clock := { state := .lost, gap := 0, settle := 0, period := 0, frame := 0, cause := .powerOn,
               countdownTaken := false }
    notices := Notice.resetAll.set 0 { pending := true, count := 1, subject := 1, enabled := true, urgent := true }
    pedals := Vector.replicate 4 { binding := .none, closed := false, differing := false }
    port := .reset
    hold := .running
    sampleNo := 0
    choiceNo := 0
    pending := [] }

end Sys2Proof.Machine
end

