-- ==== Sys2Proof/Machine/Flags.lean ====
section
/-! DEFINITION. Flags and lines that are functions of the state: the port status byte, the notice flags with ATTN_N, and
the hysteresis of CUE_HOLD. -/

namespace Sys2Proof.Machine

/-- One flag as a bit value. -/
def flag (b : Bool) (weight : Nat) : Nat := if b then weight else 0

/-- The port status byte (R184, "Port status byte" of R191). -/
def statusByte (p : Port) : Byte :=
  BitVec.ofNat 8 (flag p.executing.isNone 128 + flag p.executing.isSome 64 + flag p.resultReady 32 +
    flag p.overrun 2 + flag p.framing 1)

/-- The number of a notice kind (R175). -/
def NoticeKind.number : NoticeKind → Fin 17
  | .restarted => 0
  | .clockLost => 1
  | .clockBack => 2
  | .laneLost => 3
  | .laneLocked => 4
  | .voiceStolen => 5
  | .voiceFreed => 6
  | .stageDropped => 7
  | .sceneTaken => 8
  | .sceneShort => 9
  | .takeFailed => 10
  | .cueFired => 11
  | .cueExpired => 12
  | .setlistEnd => 13
  | .pedal => 14
  | .cueLinkFault => 15
  | .queueOverflow => 16

/-- Raising one record (R175). -/
def raiseNotice (n : Notice) (subject : Nat) : Notice :=
  { n with pending := true, count := min 255 (n.count + 1), subject := subject }

/-- Fetching one record clears it (R177). -/
def clearNotice (n : Notice) : Notice := { n with pending := false, count := 0, subject := 0 }

/-- Whether FETCH NOTICE can choose kind `k` (R177). -/
def fetchable (ns : Vector Notice 17) (k : Fin 17) : Bool := ns[k].pending && ns[k].enabled

/-- The kind FETCH NOTICE chooses: URGENT before ROUTINE, lowest number first (R177). -/
def chosenNotice (ns : Vector Notice 17) : Option (Fin 17) :=
  ((List.finRange 17).find? fun k => fetchable ns k && ns[k].urgent) <|>
    ((List.finRange 17).find? fun k => fetchable ns k)

/-- ATTN_N is driven low (R176); while a hard reset lasts it is released (R172). -/
def State.attention (s : State) : Bool := !s.inReset && (List.finRange 17).any (fetchable s.notices)

/-- The pending notice set of READ STATUS, bit k for kind k (R189, R191). -/
def pendingSet (ns : Vector Notice 17) : Nat :=
  ((List.finRange 17).map fun k => flag ns[k].pending (2 ^ k.val)).sum

/-- CUE_HOLD after the FIFO's depth has become `depth` (R145). -/
def holdAfter (depth : Nat) (hold : Bool) : Bool := if 12 ≤ depth then true else if depth ≤ 8 then false else hold

/-- The number of FREE slots (R72): 16 less the length of the age list is the same (R76). -/
def freeCount (s : State) : Nat := ((List.finRange 16).filter fun i => s.voices[i].state = .free).length

end Sys2Proof.Machine
end

