-- ==== Sys2Proof/Machine/Pitch.lean ====
section
/-! DEFINITION. Harmony pitch arithmetic (chapter 2): exact integer arithmetic on cents, with every rounding and limit the
manual states. `Int` division by a positive number is the manual's floor. -/

namespace Sys2Proof.Machine

/-! ### Pitch from period (section 2.1) -/

/-- 1200 · log2(19200 / (11 · tp)) rounded to the nearest integer, exactly: with `m` the floor of 2400 · |log2 q|, the
nearest integer to half of it is `(m + 1) / 2` (R27; the unrounded value is never halfway). -/
def centsAboveA4 (tp : Nat) : Int :=
  let num := 19200 ^ 2400
  let den := (11 * tp) ^ 2400
  if den ≤ num then (((num / den).log2 + 1) / 2 : Nat) else -((((den / num).log2 + 1) / 2 : Nat) : Int)

/-- P_raw of a period in sixteenths of a sample (R27). -/
def rawPitch (tp : Nat) : Int := 5700 + centsAboveA4 tp

/-- The candidate note of a pitch (R5). -/
def candidateNote (x ref : Int) : Int := (x - ref + 50) / 100

/-! ### The target note (section 2.3) -/

/-- Pitch class of any integer note, with the floor convention. -/
def pitchClass (note : Int) : Nat := (note % 12).toNat

/-- Whether a note's pitch class is in a set. -/
def inPitchSet (set : PitchSet) (note : Int) : Bool := set.getLsbD (pitchClass note)

/-- The degree list: the members' distances above the tonic, ascending (R105). -/
def degreeList (k : KeyMap) : List Nat :=
  (List.range 12).filter fun i => inPitchSet k.members (k.tonic.val + i)

/-- Degree of a note's remainder `r`: the largest index whose offset is at most `r` (R30). -/
def degreeOf (offsets : List Nat) (r : Nat) : Nat := (offsets.filter (· ≤ r)).length - 1

/-- The unfolded target note of a SCALE step of `k` degrees from `n` (R30, R31). -/
def scaleNote (m : KeyMap) (n k : Int) : Int :=
  let offsets := degreeList m
  let u := n - m.tonic.val
  let r := (u % 12).toNat
  let d := degreeOf offsets r
  let c := r - offsets.getD d 0
  let d' := (d : Int) + k
  let q := d' / offsets.length
  let j := (d' % offsets.length).toNat
  m.tonic.val + 12 * (u / 12 + q) + offsets.getD j 0 + c

/-- The notes counted from `n` in the direction of `k`, nearest first, whose pitch class is in the set (R33); 48 notes
hold the fourth match of any non-empty set. -/
def chordMatches (set : PitchSet) (n k : Int) : List Int :=
  ((List.range 48).map fun i => if 0 ≤ k then n + (i + 1) else n - (i + 1)).filter (inPitchSet set)

/-- The unfolded target note of a CHORD voice of rank `k` over a non-empty set (R33). -/
def chordNote (set : PitchSet) (n k : Int) : Int := (chordMatches set n k).getD (k.natAbs - 1) n

/-- The pitch-class set of the chord set's entries, down or not (R146). -/
def chordPitchSet (c : ChordSet) : PitchSet :=
  c.entries.foldl (fun set e => set ||| BitVec.twoPow 12 (e.note % 12)) 0

/-! ### Follow, target and folding (section 2.4) -/

/-- The follow term F of a voice that is not PINNED (R37). -/
def followTerm (d : Int) (follow : Nat) : Int := (max (-100) (min 100 d) * follow + 64) / 128

/-- The number of octaves `m` the fold applies: negative for subtractions, positive for additions (R39). -/
def foldOctaves (t : Int) (lo hi : Nat) : Int :=
  let down := if 100 * (hi : Int) < t then (t - 100 * hi + 1199) / 1200 else 0
  let t' := t - 1200 * down
  let up := if t' < 100 * (lo : Int) then (100 * lo - t' + 1199) / 1200 else 0
  up - down

/-! ### Glide, interval and ratio (sections 2.5 and 2.6) -/

/-- Step 5: the new output pitch (R40). -/
def glideStep (fresh : Bool) (glide : Nat) (t o : Int) : Int :=
  let g : Int := 5 * glide
  if fresh ∨ g = 0 ∨ |t - o| ≤ g then t else if o < t then o + g else o - g

/-- The clamp of the shift interval (R41). -/
def clampInterval (x : Int) : Int := max (-2400) (min 2400 x)

/-- The largest `x` below `2 ^ bits`, with the bits above already fixed in `acc`, whose 1200th power is at most `n`. -/
def rootBits (n : Nat) : Nat → Nat → Nat
  | 0, acc => acc
  | bits + 1, acc => if (acc + 2 ^ bits) ^ 1200 ≤ n then rootBits n bits (acc + 2 ^ bits) else rootBits n bits acc

/-- R = round-half-up(65536 · 2^(Δ/1200)), exactly (R42): with `k` the integer 1200th root of 2^(20400 + Δ), which is the
floor of 2 · 65536 · 2^(Δ/1200), the nearest integer is `(k + 1) / 2`. -/
def ratioOf (delta : Int) : Nat := (rootBits (2 ^ (20400 + delta).toNat) 20 0 + 1) / 2

/-! ### Level (section 2.7) -/

/-- Step 7: the new current level (R43). -/
def levelStep (level target attack release : Nat) : Nat :=
  if level < target then min target (level + 16 * attack)
  else if target < level then max target (level - 16 * release)
  else level

/-! ### The voice computation (section 2.2) -/

/-- What a voice reads at a result of its lane (R28, R29, R51). -/
structure VoiceContext where
  tracking : Tracking
  p        : Int
  n        : Int
  d        : Int
  freeze   : Bool
  keyMap   : KeyMap
  chordSet : PitchSet
  deriving DecidableEq, Repr

/-- Step 1: the unfolded target note and the fallback-in-use flag (R31 to R36). A frozen voice whose stored rule kind is CHORD
keeps the flag; one whose stored kind is another, by a MODIFY VOICE during the freeze too, clears it at its next computation
(R34, R65 followed where R36 leaves the rule to the unfreeze: assumption 32). -/
def targetNote (v : Voice) (c : VoiceContext) : Int × Bool :=
  match v.frozen with
  | some note => (note, v.template.rule = .chord && v.fallbackUsed)
  | none =>
    match v.template.rule with
    | .scale => (scaleNote c.keyMap c.n v.template.operand, false)
    | .fixed => (c.n + v.template.operand, false)
    | .chord =>
      if c.chordSet = 0 then (scaleNote c.keyMap c.n v.template.fallback, true)
      else (chordNote c.chordSet c.n v.template.operand, false)
    | .pinned => (v.template.operand, false)

/-- Steps 2 and 3: the unfolded target pitch for an unfolded target note (R37, R38). Step 2 reads the stored rule kind, under
freeze too: a kind changed to or from PINNED by a MODIFY VOICE during the freeze makes F 0, or lets it follow, at the next
computation, while step 1's change waits for the unfreeze (R28, R36, R37, R65: assumption 32). -/
def unfoldedTarget (v : Voice) (c : VoiceContext) (note : Int) : Int :=
  let f := if v.template.rule = .pinned then 0 else followTerm c.d v.template.follow
  100 * note + c.keyMap.ref + f + v.template.detune

/-- Step 7 on a record (R43). -/
def stepLevel (v : Voice) : Voice :=
  { v with level := levelStep v.level v.levelTarget v.template.attack v.template.release }

/-- Steps 1 to 6 (R28). -/
def computePitch (v : Voice) (c : VoiceContext) : Voice :=
  let note := (targetNote v c).1
  let raw := unfoldedTarget v c note
  let m := foldOctaves raw v.template.lo v.template.hi
  let t := raw + 1200 * m
  let o := glideStep v.fresh v.template.glide t v.o
  let delta := clampInterval (o - c.p)
  { v with
    nt := note + 12 * m
    t := t
    o := o
    fresh := false
    delta := delta
    clamped := delta ≠ o - c.p
    ratio := ratioOf delta
    fallbackUsed := (targetNote v c).2 }

/-- Steps 1 to 7 (R28). -/
def compute (v : Voice) (c : VoiceContext) : Voice := stepLevel (computePitch v c)

end Sys2Proof.Machine
end

