-- ==== Sys2Proof/Machine/Operands.lean ====
section
/-! DEFINITION. Operand forms: bytes to values with the checks, clamps and substitutions each chapter gives, and values to
the bytes of the result layouts (section 12.5, R191). Multi-byte fields are sent most significant byte first. -/

namespace Sys2Proof.Machine

/-! ### Bytes -/

/-- An unsigned two-byte field. -/
def unsigned16 (hi lo : Byte) : Nat := hi.toNat * 256 + lo.toNat

/-- A signed two-byte field. -/
def signed16 (hi lo : Byte) : Int := (hi ++ lo).toInt

/-- A byte holding a number. -/
def byte (n : Nat) : Byte := BitVec.ofNat 8 n

/-- A byte holding a signed number. -/
def signedByte (z : Int) : Byte := BitVec.ofInt 8 z

/-- Two bytes holding a number. -/
def bytes16 (n : Nat) : List Byte := [byte (n / 256), byte n]

/-- Two bytes holding a signed number. -/
def signedBytes16 (z : Int) : List Byte := bytes16 (BitVec.ofInt 16 z).toNat

/-- Three bytes holding a number. -/
def bytes24 (n : Nat) : List Byte := [byte (n / 65536), byte (n / 256), byte n]

/-- One flag as a byte, no 0 and yes 1. -/
def boolByte (b : Bool) : Byte := if b then 1 else 0

/-- Operand byte `i` of the command block, i.e. block byte `i + 2`. -/
def operand (f : CommandFrame) (i : Fin 6) : Byte := f.operands[i]

/-- Byte `i` of the data phase. -/
def dataByte (f : CommandFrame) (i : Nat) : Byte := f.data.getD i 0

/-- A clamp into a range. -/
def clampInt (lo hi x : Int) : Int := max lo (min hi x)

/-! ### Codes of enumerated fields (R191) -/

/-- A lane number 0 to 3. -/
def laneOf? (b : Byte) : Option LaneId := if h : b.toNat < 4 then some ⟨b.toNat, h⟩ else none

/-- A slot 0 to 15. -/
def slotOf? (b : Byte) : Option Slot := if h : b.toNat < 16 then some ⟨b.toNat, h⟩ else none

/-- A scene number 0 to 31. -/
def sceneOf? (b : Byte) : Option SceneId := if h : b.toNat < 32 then some ⟨b.toNat, h⟩ else none

/-- A tonic 0 to 11. -/
def tonicOf? (b : Byte) : Option (Fin 12) := if h : b.toNat < 12 then some ⟨b.toNat, h⟩ else none

/-- An off 0, on 1 field; also keep 0, zero 1 and STOP 0, WRAP 1. -/
def flagOf? (n : Nat) : Option Bool := if n = 0 then some false else if n = 1 then some true else none

/-- Retire mode. -/
def retireModeOf? (b : Byte) : Option RetireMode := if b = 0 then some .release else if b = 1 then some .kill else none

/-- Owner filter. -/
def ownerFilterOf? (b : Byte) : Option OwnerFilter :=
  if b = 0 then some .all else if b = 1 then some .control else if b = 2 then some .scene else none

/-- Take mode. -/
def takeModeOf? (b : Byte) : Option TakeMode :=
  if b = 0 then some .keepControl else if b = 1 then some .clearAll else none

/-- Expiry action. -/
def expiryActionOf? (b : Byte) : Option ExpiryAction := if b = 0 then some .take else if b = 1 then some .drop else none

/-- Rule kind. -/
def ruleKindOf? (b : Byte) : Option RuleKind :=
  if b = 0 then some .scale else if b = 1 then some .fixed else if b = 2 then some .chord
  else if b = 3 then some .pinned else none

/-- Group. -/
def groupOf? (b : Byte) : Option Group := if b = 0 then some .foreground else if b = 1 then some .background else none

/-- Codes of the tracking states. -/
def trackingCode : Tracking → Byte
  | .off => 0
  | .search => 1
  | .locked => 2
  | .hold => 3
  | .reacquire => 4

/-- Codes of the result classes. -/
def classCode : ResultClass → Byte
  | .none => 0
  | .voiced => 1
  | .notVoiced => 2
  | .lowConfidence => 3
  | .periodRange => 4
  | .outOfLimits => 5

/-- Codes of the octave directions. -/
def directionCode : Direction → Byte
  | .up => 0
  | .down => 1

/-- Codes of the rule kinds. -/
def ruleCode : RuleKind → Byte
  | .scale => 0
  | .fixed => 1
  | .chord => 2
  | .pinned => 3

/-- Codes of the groups. -/
def groupCode : Group → Byte
  | .foreground => 0
  | .background => 1

/-- Codes of the owners, as a number. -/
def ownerCode : Owner → Nat
  | .control => 0
  | .scene => 1

/-- Codes of the voice states (section 3.2), as a number. -/
def voiceStateCode : VoiceState → Nat
  | .free => 0
  | .pending => 1
  | .acquiring => 2
  | .active => 3
  | .holding => 4
  | .releasing => 5

/-- Codes of the take modes. -/
def takeModeCode : TakeMode → Byte
  | .keepControl => 0
  | .clearAll => 1

/-- Codes of the clock states. -/
def clockCode : ClockState → Byte
  | .present => 0
  | .lost => 1
  | .settling => 2

/-- Codes of the reset causes (R172), as a number. -/
def causeCode : ResetCause → Nat
  | .powerOn => 1
  | .resetPin => 2
  | .restartCommand => 3

/-- A binding's code and lane byte; the lane is stored as 0 for bindings without one (R182). -/
def bindingBytes : Binding → List Byte
  | .none => [0, 0]
  | .setlistNext => [1, 0]
  | .setlistPrev => [2, 0]
  | .freezeToggle k => [3, byte k.val]
  | .bypassToggle k => [4, byte k.val]
  | .fireCue => [5, 0]
  | .chordClear => [6, 0]

/-- A scene number or FFh for NONE. -/
def sceneByte : Option SceneId → Byte
  | some n => byte n.val
  | none => 0xFF

/-- A binding from its code and lane byte, or the detail of the refusal for pedal `p` (R182). -/
def bindingOf (p : Nat) (code lane : Byte) : Except Nat Binding :=
  if code = 0 then .ok .none
  else if code = 1 then .ok .setlistNext
  else if code = 2 then .ok .setlistPrev
  else if code = 3 then (laneOf? lane).elim (.error (4 + p)) (fun k => .ok (.freezeToggle k))
  else if code = 4 then (laneOf? lane).elim (.error (4 + p)) (fun k => .ok (.bypassToggle k))
  else if code = 5 then .ok .fireCue
  else if code = 6 then .ok .chordClear
  else .error p

/-! ### Voice templates (R44, R45) -/

/-- The operand range of each rule kind (R44, field 3). -/
def operandAllowed (kind : RuleKind) (z : Int) : Bool :=
  match kind with
  | .scale => -14 ≤ z && z ≤ 14
  | .fixed => -24 ≤ z && z ≤ 24
  | .chord => (-4 ≤ z && z ≤ -1) || (1 ≤ z && z ≤ 4)
  | .pinned => 0 ≤ z && z ≤ 119

/-- Fields 2 and 3 together: the rule, or the field that is refused. -/
def ruleOf (kind operandByte : Byte) : Except Nat (RuleKind × Int) :=
  match ruleKindOf? kind with
  | none => .error 2
  | some k => if operandAllowed k operandByte.toInt then .ok (k, operandByte.toInt) else .error 3

/-- Field 4, refused outside −14 to +14. -/
def fallbackOf (b : Byte) : Except Nat Int := if -14 ≤ b.toInt ∧ b.toInt ≤ 14 then .ok b.toInt else .error 4

/-- Fields 7 and 8 together: the range, or the field that is refused. -/
def rangeOf (lo hi : Byte) : Except Nat (Nat × Nat) :=
  if ¬(12 ≤ lo.toNat ∧ lo.toNat ≤ 108) then .error 7
  else if ¬(12 ≤ hi.toNat ∧ hi.toNat ≤ 108) ∨ hi.toNat < lo.toNat + 12 then .error 8
  else .ok (lo.toNat, hi.toNat)

/-- Field 5. -/
def followOf (b : Byte) : Nat := min 128 b.toNat

/-- Field 6. -/
def detuneOf (b : Byte) : Int := clampInt (-50) 50 b.toInt

/-- Field 9. -/
def glideOf (b : Byte) : Nat := min 120 b.toNat

/-- Field 10, and a lane's dry level (R99, R110). -/
def levelOf (hi lo : Byte) : Nat := min 4096 (unsigned16 hi lo)

/-- Field 11. -/
def panOf (b : Byte) : Nat := min 127 b.toNat

/-- Fields 13 and 14: a step of 0 is taken as 1. -/
def stepOf (b : Byte) : Nat := max 1 b.toNat

/-- Field 12, refused for a code that is neither group. -/
def groupOf (b : Byte) : Except Nat Group :=
  match groupOf? b with
  | some g => .ok g
  | none => .error 12

/-- Take a template from its sixteen bytes in ascending field order (R45). `lane` is the source lane to store; `none` is a
scene template's source lane above 3, which is refused at field 1. -/
def templateOf (b : Nat → Byte) (lane : Option LaneId) : Except Nat Template :=
  if b 0 = 0 then .error 0
  else
    match lane with
    | none => .error 1
    | some k =>
      match ruleOf (b 2) (b 3) with
      | .error e => .error e
      | .ok (kind, op) =>
        match fallbackOf (b 4) with
        | .error e => .error e
        | .ok fallback =>
          match rangeOf (b 7) (b 8) with
          | .error e => .error e
          | .ok (lo, hi) =>
            match groupOf (b 13) with
            | .error e => .error e
            | .ok group =>
              .ok { tag := (b 0).toNat, lane := k, rule := kind, operand := op, fallback := fallback,
                    follow := followOf (b 5), detune := detuneOf (b 6), lo := lo, hi := hi, glide := glideOf (b 9),
                    level := levelOf (b 10) (b 11), pan := panOf (b 12), group := group, attack := stepOf (b 14),
                    release := stepOf (b 15) }

/-- The sixteen bytes of a template ("Voice template" of R191). -/
def templateBytes (t : Template) : List Byte :=
  [byte t.tag, byte t.lane.val, ruleCode t.rule, signedByte t.operand, signedByte t.fallback, byte t.follow,
   signedByte t.detune, byte t.lo, byte t.hi, byte t.glide] ++ bytes16 t.level ++
  [byte t.pan, groupCode t.group, byte t.attack, byte t.release]

/-- The modification a field index and a value operand ask for, or the field that is refused (R64, R65, R191). The first
value byte of a one-byte field is not examined (assumption 6). `none`: the index is not modifiable. -/
def modificationOf (field hi lo : Byte) : Option (Except Nat Modification) :=
  if field = 2 then some ((ruleOf hi lo).map fun r => .rule r.1 r.2)
  else if field = 4 then some ((fallbackOf lo).map .fallback)
  else if field = 5 then some (.ok (.follow (followOf lo)))
  else if field = 6 then some (.ok (.detune (detuneOf lo)))
  else if field = 7 then some ((rangeOf hi lo).map fun r => .range r.1 r.2)
  else if field = 9 then some (.ok (.glide (glideOf lo)))
  else if field = 10 then some (.ok (.level (levelOf hi lo)))
  else if field = 11 then some (.ok (.pan (panOf lo)))
  else if field = 12 then some ((groupOf lo).map .group)
  else if field = 13 then some (.ok (.attack (stepOf lo)))
  else if field = 14 then some (.ok (.release (stepOf lo)))
  else none

/-- The stored value in the form of the value operand (R64, R191). -/
def modificationBytes : Modification → List Byte
  | .rule kind op => [ruleCode kind, signedByte op]
  | .fallback z => [0, signedByte z]
  | .follow v => [0, byte v]
  | .detune z => [0, signedByte z]
  | .range lo hi => [byte lo, byte hi]
  | .glide v => [0, byte v]
  | .level v => bytes16 v
  | .pan v => [0, byte v]
  | .group g => [0, groupCode g]
  | .attack v => [0, byte v]
  | .release v => [0, byte v]

/-- Writing a modification into a template (R65). -/
def modifyTemplate (t : Template) : Modification → Template
  | .rule kind op => { t with rule := kind, operand := op }
  | .fallback z => { t with fallback := z }
  | .follow v => { t with follow := v }
  | .detune z => { t with detune := z }
  | .range lo hi => { t with lo := lo, hi := hi }
  | .glide v => { t with glide := v }
  | .level v => { t with level := v }
  | .pan v => { t with pan := v }
  | .group g => { t with group := g }
  | .attack v => { t with attack := v }
  | .release v => { t with release := v }

/-! ### Lanes (R21, R23, R99) -/

/-- The data phase of SET LANE CHARACTERISTICS: the clamps and substitutions, then the three checks; an error is the
detail of a BAD_PARAM (R21). -/
def laneCharsOf (f : CommandFrame) : Except Nat LaneChars :=
  let low := clampInt 2251 7823 (signed16 (dataByte f 0) (dataByte f 1))
  let high := clampInt 2251 7823 (signed16 (dataByte f 2) (dataByte f 3))
  let confirm := max 1 (dataByte f 6).toNat
  let persist := max 1 (dataByte f 8).toNat
  if high ≤ low then .error 1
  else if 8 < confirm then .error 4
  else if 15 < persist then .error 6
  else .ok { lowLimit := low, highLimit := high, threshold := (dataByte f 4).toNat,
             hysteresis := min 45 (dataByte f 5).toNat, confirmFrames := confirm,
             octaveWindow := min 100 (dataByte f 7).toNat, octavePersist := persist,
             holdFrames := (dataByte f 9).toNat, reacquireFrames := max 1 (dataByte f 10).toNat }

/-- The characteristics in the order of R21, eleven bytes. -/
def laneCharsBytes (c : LaneChars) : List Byte :=
  signedBytes16 c.lowLimit ++ signedBytes16 c.highLimit ++
  [byte c.threshold, byte c.hysteresis, byte c.confirmFrames, byte c.octaveWindow, byte c.octavePersist,
   byte c.holdFrames, byte c.reacquireFrames]

/-- Whether P, N_cur and D are valid (section 1.3). -/
def pitchValid (t : Tracking) : Bool := t = .locked || t = .hold || t = .reacquire

/-- The 32-byte lane image (R23, "Lane image" of R191). -/
def laneImage (l : Lane) : List Byte :=
  let v := pitchValid l.tracking
  [byte (flag l.settings.on 1 + flag l.settings.bypass 2 + flag l.settings.freeze 4)] ++ bytes16 l.settings.dry ++
  [trackingCode l.tracking, boolByte v] ++ signedBytes16 (if v then l.p else 0) ++ [signedByte (if v then l.n else 0)] ++
  signedBytes16 (if v then l.d else 0) ++
  [l.lastConfidence, classCode l.lastClass, byte l.counter, l.candidate.elim 0xFF signedByte, byte l.confirmCount,
   byte l.octaveLength, directionCode l.octaveDirection] ++
  bytes16 l.resultCount ++ bytes16 l.correctionCount ++ laneCharsBytes l.chars

/-- The four settings as the LANE SETTINGS result carries them (R99). -/
def laneSettingsBytes (st : LaneSettings) : List Byte :=
  [boolByte st.on, boolByte st.bypass, boolByte st.freeze] ++ bytes16 st.dry

/-- The operands of LANE SETTINGS after the lane: an error is the detail of a BAD_PARAM (R99). -/
def laneSettingsOf (f : CommandFrame) : Except Nat LaneSettings :=
  match flagOf? (operand f 1).toNat with
  | none => .error 0
  | some on =>
    match flagOf? (operand f 2).toNat with
    | none => .error 1
    | some bypass =>
      match flagOf? (operand f 3).toNat with
      | none => .error 2
      | some freeze => .ok { on := on, bypass := bypass, freeze := freeze, dry := levelOf (operand f 4) (operand f 5) }

/-- The nine bytes of READ LAST CORRECTION (R18). -/
def correctionBytes (l : Lane) : List Byte :=
  signedBytes16 l.correction.raw ++ signedBytes16 l.correction.corrected ++ [directionCode l.correction.direction] ++
  bytes16 l.correction.resultNumber ++ bytes16 l.correctionCount

/-! ### Voices (R70) -/

/-- The 32-byte voice image (R70, "Voice image" of R191). -/
def voiceImage (v : Voice) : List Byte :=
  [byte (voiceStateCode v.state * 16 + v.generation.val),
   byte (ownerCode v.owner + flag v.fresh 2 + flag v.frozen.isSome 4 + flag v.clamped 8 + flag v.fallbackUsed 16)] ++
  templateBytes v.template ++ [v.frozen.elim 0 signedByte, signedByte v.nt] ++ signedBytes16 v.t ++
  signedBytes16 v.o ++ signedBytes16 v.delta ++ bytes24 v.ratio ++ bytes16 v.level ++ [0]

/-! ### Key maps and scenes (R106, R107, R110, R113) -/

/-- A key map from its bytes: an error is the detail of a BAD_PARAM (R106; R110, fields 1 to 3). The tonic is added to
the set and the ref is clamped. -/
def keyMapOf (tonic hi lo ref : Byte) : Except Nat KeyMap :=
  match tonicOf? tonic with
  | none => .error 0
  | some t =>
    if 4096 ≤ unsigned16 hi lo then .error 1
    else .ok { tonic := t, members := BitVec.ofNat 12 (unsigned16 hi lo) ||| BitVec.twoPow 12 t.val,
               ref := clampInt (-50) 50 ref.toInt }

/-- Tonic, member set and ref as bytes (R106). -/
def keyMapBytes (k : KeyMap) : List Byte := [byte k.tonic.val] ++ bytes16 k.members.toNat ++ [signedByte k.ref]

/-- A list of bytes filled with zeros, or cut, to a length. -/
def padTo (n : Nat) (l : List Byte) : List Byte := l.take n ++ List.replicate (n - l.length) 0

/-- READ KEY MAP (R107): the key map, L and the twelve degree places. -/
def keyMapImage (k : KeyMap) : List Byte :=
  keyMapBytes k ++ [byte (degreeList k).length] ++ padTo 12 ((degreeList k).map byte)

/-- The first lane whose mode nibble (`shift` 1) or bypass nibble (`shift` 16) is not 0 or 1 (R110, fields 6 and 7). -/
def badLaneNibble (f : CommandFrame) (shift : Nat) : Option Nat :=
  (List.range 4).find? fun k => (flagOf? ((dataByte f (6 + k)).toNat / shift % 16)).isNone

/-- Templates `done.length` to `count - 1` of a scene record, each examined in its three parts (R110, field 9). `todo`
counts the templates left. -/
def sceneTemplatesOf (f : CommandFrame) (lanes : Vector SceneLane 4) : Nat → List Template → Except Nat (List Template)
  | 0, done => .ok done
  | todo + 1, done =>
    let t := done.length
    let b := fun i => dataByte f (18 + 16 * t + i)
    match templateOf b (laneOf? (b 1)) with
    | .error e => .error (16 + 16 * t + e)
    | .ok tpl =>
      if !lanes[tpl.lane].on then .error (16 + 16 * t + 1)
      else if done.any (fun d => d.tag = tpl.tag && d.lane = tpl.lane) then .error (16 + 16 * t)
      else sceneTemplatesOf f lanes todo (done ++ [tpl])

/-- The settings of lane `k` in a scene record whose nibbles have passed. -/
def sceneLaneAt (f : CommandFrame) (k : Nat) : SceneLane :=
  { on := (dataByte f (6 + k)).toNat % 16 = 1, bypass := (dataByte f (6 + k)).toNat / 16 = 1,
    dry := levelOf (dataByte f (10 + 2 * k)) (dataByte f (11 + 2 * k)) }

/-- A scene from the 148-byte record in the data phase, examined field by field: an error is the detail of a BAD_PARAM
(R110). -/
def sceneOf (f : CommandFrame) : Except Nat Scene :=
  match keyMapOf (dataByte f 0) (dataByte f 1) (dataByte f 2) (dataByte f 3) with
  | .error e => .error e
  | .ok keyMap =>
    match takeModeOf? (dataByte f 4) with
    | none => .error 3
    | some takeMode =>
      if 8 < (dataByte f 5).toNat then .error 4
      else
        match badLaneNibble f 1 with
        | some k => .error (5 + k)
        | none =>
          match badLaneNibble f 16 with
          | some k => .error (9 + k)
          | none =>
            let lanes := #v[sceneLaneAt f 0, sceneLaneAt f 1, sceneLaneAt f 2, sceneLaneAt f 3]
            (sceneTemplatesOf f lanes (dataByte f 5).toNat []).map fun templates =>
              { keyMap := keyMap, takeMode := takeMode, lanes := lanes, templates := templates }

/-- The 148 bytes of a stored scene ("Scene record" of R191, R113). -/
def sceneBytes (sc : Scene) : List Byte :=
  keyMapBytes sc.keyMap ++ [takeModeCode sc.takeMode, byte sc.templates.length] ++
  sc.lanes.toList.map (fun l => byte (flag l.on 1 + flag l.bypass 16)) ++
  sc.lanes.toList.flatMap (fun l => bytes16 l.dry) ++
  padTo 128 (sc.templates.flatMap templateBytes) ++ [0, 0]

/-! ### The setlist (R120, R121) -/

/-- The first `n` setlist entries from position `i` of the data phase: an error is the detail of a BAD_PARAM (R120). -/
def setlistEntriesOf (f : CommandFrame) : Nat → Nat → Except Nat (List SceneId)
  | 0, _ => .ok []
  | n + 1, i =>
    match sceneOf? (dataByte f i) with
    | none => .error (2 + i)
    | some scene => (setlistEntriesOf f n (i + 1)).map (scene :: ·)

/-- The operands and data phase of LOAD SETLIST; the position is set to 0 (R120). -/
def setlistOf (f : CommandFrame) : Except Nat Setlist :=
  if 64 < (operand f 0).toNat then .error 0
  else
    match flagOf? (operand f 1).toNat with
    | none => .error 1
    | some wrap =>
      (setlistEntriesOf f (operand f 0).toNat 0).map fun entries => { entries := entries, position := 0, wrap := wrap }

/-- READ SETLIST (R121). -/
def setlistImage (l : Setlist) : List Byte :=
  [byte l.entries.length, boolByte l.wrap, byte l.position] ++ padTo 64 (l.entries.map fun n => byte n.val)

/-! ### The chord set (R151) -/

/-- The five fault counts, in the order of R151. -/
def faultBytes (c : FaultCounts) : List Byte := [byte c.stray, byte c.framing, byte c.check, byte c.content, byte c.overrun]

/-- READ CHORD SET (R151, "Chord set result" of R191). -/
def chordImage (c : ChordSet) (l : CueLink) : List Byte :=
  [byte c.entries.length] ++ padTo 16 (c.entries.flatMap fun e => [byte e.note, boolByte e.down]) ++
  [boolByte c.latch] ++ bytes16 (chordPitchSet c).toNat ++ [byte l.fifo.length, boolByte l.hold] ++ faultBytes l.faults

end Sys2Proof.Machine
end

