-- ==== Sys2Proof/Machine/Render.lean ====
section
/-! DEFINITION. Rendering and output mixing (chapter 9): ramps, render channels, the lane mixers, and what a word-clock period
does to the audio side. -/

namespace Sys2Proof.Machine

/-! ### Ramps (R156, R161) -/

/-- The value of a ramp from `a` to `b` at sample `j`: a + trunc((b − a) · j / 256) (R156). -/
def rampAt (a b j : Nat) : Nat := ((a : Int) + (((b : Int) - a) * j).tdiv 256).toNat

/-- Position of a ramp after one further sample; it stands at its end after 256. -/
def advancePosition (position : Nat) : Nat := min Config.frameLength (position + 1)

/-- A mixer gain's value at the latest sample made. -/
def rampValue (r : Ramp) : Nat := rampAt r.start r.target r.position

/-- An act sets a mixer gain's target (R161; assumption 7 for a target equal to the value of a ramp under way). -/
def setRampTarget (r : Ramp) (target : Nat) : Ramp :=
  if rampValue r = target ∧ r.target = target then r
  else { start := rampValue r, target := target, position := 0 }

/-- The dry gain's target (R161). -/
def dryTarget (l : LaneSettings) : Nat := if l.on then l.dry else 0

/-- The bypass gain's target (R161). -/
def bypassTarget (l : LaneSettings) : Nat := if l.on ∧ l.bypass then 4096 else 0

/-- Both targets set from a lane's settings (R161). -/
def retarget (m : Mixer) (l : LaneSettings) : Mixer :=
  { dry := setRampTarget m.dry (dryTarget l), bypass := setRampTarget m.bypass (bypassTarget l) }

/-- One sample of a mixer gain's ramp. -/
def advanceRamp (r : Ramp) : Ramp := { r with position := advancePosition r.position }

/-- One sample of a mixer's ramps. -/
def advanceMixer (m : Mixer) : Mixer := { dry := advanceRamp m.dry, bypass := advanceRamp m.bypass }

/-! ### Render channels (R156 to R160) -/

/-- The gain a channel uses at the latest sample made. -/
def channelGain (c : Channel) : Nat := rampAt c.startGain c.endGain c.position

/-- The ratio a channel uses at the latest sample made. -/
def channelRatio (c : Channel) : Nat := rampAt c.startRatio c.endRatio c.position

/-- The pan a channel uses at the latest sample made. -/
def channelPan (c : Channel) : Nat := rampAt c.startPan c.endPan c.position

/-- A channel that becomes SILENT makes no output, and its shifter keeps nothing for the slot's next voice (R156). -/
def silenced (c : Channel) : Channel := { c with state := .silent, phase := 0, y := 0 }

/-- After sample 256 of its fade a CUTTING channel becomes SILENT (R159). -/
def endFade (c : Channel) : Channel := if c.position = Config.frameLength then silenced c else c

/-- The next sample of a channel's ramp, made from the delayed input `x` of its lane: the ramp's position, and the shifter's
output and kept phase at that sample's ratio (R156). -/
def makeSample (x : Sample) (c : Channel) : Channel :=
  let c := { c with position := advancePosition c.position }
  { c with
    y := Config.shifterOutput c.phase (channelRatio c) x
    phase := Config.shifterPhase c.phase (channelRatio c) x }

/-- A channel in a word-clock period: a PLAYING channel goes on only while the clock is PRESENT, a CUTTING one also while
SETTLING (R164, assumption 24), until its fade ends; a SILENT one makes no sample. -/
def advanceChannel (clock : ClockState) (x : Sample) (c : Channel) : Channel :=
  match c.state with
  | .silent => c
  | .playing => if clock = .present then makeSample x c else c
  | .cutting => endFade (makeSample x c)

/-- A voice's channel is cut (R159): a fade from the gain of the latest sample, at the ratio and pan of that sample. A SILENT
channel made no sample: its ratio and pan are those of its position 0, the start values (assumption 34). -/
def cutChannel (c : Channel) : Channel :=
  { c with state := .cutting, startGain := channelGain c, endGain := 0, startRatio := channelRatio c,
           endRatio := channelRatio c, startPan := channelPan c, endPan := channelPan c, nextGain := 0, position := 0 }

/-- At a boundary a SILENT or PLAYING channel begins a new ramp, from its end values to its next values, and takes the lane handed
over (R157, R158, assumption 25); from SILENT its shifter starts with no history (R156). The ratio's ramp starts at the old end
ratio for a new voice too: R158 followed against the words of the worked sequence of chapter 9 that the voice is on pitch from
its first audible sample (assumption 33). -/
def startRamp (c : Channel) : Channel :=
  if c.state = .cutting then c
  else
    let ramp := { c with
      lane := c.nextLane
      startGain := c.endGain, startRatio := c.endRatio, startPan := c.endPan
      endGain := c.nextGain, endRatio := c.nextRatio, endPan := c.nextPan
      position := 0 }
    if c.endGain = 0 ∧ c.nextGain = 0 then silenced ramp
    else { ramp with state := .playing, phase := if c.state = .playing then c.phase else 0 }

/-- A voice that acted hands its channel the next values and its source lane; what is heard in the frame in progress, a fade or a
ramp of the slot's earlier voice among it, stays on the lane it is on (R157, assumption 25). -/
def handOver (v : Voice) (c : Channel) : Channel :=
  { c with nextLane := v.template.lane, nextGain := if v.state = .acquiring then 0 else v.level, nextRatio := v.ratio,
           nextPan := v.template.pan }

/-- At the entry to PRESENT every channel is silenced (R165). -/
def silenceChannel (c : Channel) : Channel :=
  { silenced c with startGain := 0, endGain := 0, nextGain := 0, position := 0 }

/-- At a soft reset a PLAYING or CUTTING channel is cut and a SILENT one stays SILENT (R166); the next gain of a SILENT
channel becomes 0 too (assumption 8). -/
def softResetChannel (c : Channel) : Channel :=
  if c.state = .silent then { c with nextGain := 0 } else cutChannel c

/-! ### The mix (R162) -/

/-- Rounded toward zero once, and saturated to 24 bits: the exact sum is `num / den`. -/
def outputSample (num den : Int) : Sample := BitVec.ofInt 24 (max (-8388608) (min 8388607 (num.tdiv den)))

/-- One side of a lane's output (R162). Each voice term is (y_v, gain_v, pan weight out of 127). -/
def mixSide (beta dry : Nat) (x : Int) (terms : List (Int × Nat × Nat)) : Sample :=
  let voices : Int := (terms.map fun t => t.1 * (t.2.1 : Int) * (t.2.2 : Int)).sum
  outputSample (beta * x * 4096 * 127 + (4096 - (beta : Int)) * (dry * x * 127 + voices)) (4096 * 4096 * 127)

/-- The channels of lane `k` whose gain is above 0, with their outputs, gains and pan weights (R160, R162). -/
def laneTerms (channels : Vector Channel 16) (k : LaneId) (weight : Channel → Nat) : List (Int × Nat × Nat) :=
  (channels.toList.filter fun c => c.lane = k ∧ 0 < channelGain c).map fun c => (c.y.toInt, channelGain c, weight c)

/-- The left output of lane `k` (R162). -/
def leftOut (channels : Vector Channel 16) (mixers : Vector Mixer 4) (k : LaneId) (x : Sample) : Sample :=
  mixSide (rampValue mixers[k].bypass) (rampValue mixers[k].dry) x.toInt (laneTerms channels k fun c => 127 - channelPan c)

/-- The right output of lane `k` (R162). -/
def rightOut (channels : Vector Channel 16) (mixers : Vector Mixer 4) (k : LaneId) (x : Sample) : Sample :=
  mixSide (rampValue mixers[k].bypass) (rampValue mixers[k].dry) x.toInt (laneTerms channels k channelPan)

/-! ### Word-clock periods -/

/-- The sample of an input slot: its first 24 bit times; the last 8 are ignored (R155). -/
def sampleOfSlot (b : TdmSlot) : Sample := b.extractLsb' 8 24

/-- An output slot: the sample in its first 24 bit times, the last 8 driven as 0 (R155). -/
def slotOfSample (y : Sample) : TdmSlot := y ++ (0 : BitVec 8)

/-- The delayed input of lane `k`: the sample taken 256 periods ago (R155). -/
def delayedInput (a : Audio) (k : LaneId) : Sample := a.delay[k].headD 0

/-- The delay line of lane `k` takes the sample of its slot in period `n` (R155). -/
def feedLine (line : List Sample) (k : LaneId) (n : Nat) : List Sample :=
  line.drop 1 ++ [sampleOfSlot (Config.tdmInput n (k.castLE (by omega)))]

/-- Zeros in all eight output slots (R164). -/
def silentOut : Vector TdmSlot 8 := Vector.replicate 8 0

/-- The output slots: slots 2k and 2k + 1 carry lane k (R155). `x` gives each lane's delayed sample. -/
def mixOut (channels : Vector Channel 16) (mixers : Vector Mixer 4) (x : LaneId → Sample) : Vector TdmSlot 8 :=
  #v[slotOfSample (leftOut channels mixers 0 (x 0)), slotOfSample (rightOut channels mixers 0 (x 0)),
     slotOfSample (leftOut channels mixers 1 (x 1)), slotOfSample (rightOut channels mixers 1 (x 1)),
     slotOfSample (leftOut channels mixers 2 (x 2)), slotOfSample (rightOut channels mixers 2 (x 2)),
     slotOfSample (leftOut channels mixers 3 (x 3)), slotOfSample (rightOut channels mixers 3 (x 3))]

/-- A word-clock period on the audio side: channels and mixers go on by a sample, made from the input of 256 periods before; the
delay lines take the period's input; the output slots carry the mix, or 0 unless the clock is PRESENT (R155, R156, R162,
R164). -/
def State.samplePeriod (s : State) : State :=
  let x := delayedInput s.audio
  let channels := s.channels.map fun c => advanceChannel s.clock.state (x c.lane) c
  let mixers := s.mixers.map advanceMixer
  { s with
    channels := channels
    mixers := mixers
    audio :=
      { delay := #v[feedLine s.audio.delay[0] 0 s.sampleNo, feedLine s.audio.delay[1] 1 s.sampleNo,
                    feedLine s.audio.delay[2] 2 s.sampleNo, feedLine s.audio.delay[3] 3 s.sampleNo]
        out := if s.clock.state = .present then mixOut channels mixers x else silentOut }
    sampleNo := s.sampleNo + 1 }

/-- `n` word-clock periods go by on the audio side, with no boundary among them. -/
def State.samplePeriods : Nat → State → State
  | 0, s => s
  | n + 1, s => s.samplePeriod.samplePeriods n

end Sys2Proof.Machine
end

