-- ==== Sys2Proof/Machine/Ops.lean ====
section
/-! DEFINITION. The named operations the meanings share: updates of the state, raising notices, freeing and allocating
voices, staging, the setlist step, firing the cue, the control port's frames and the taking of a command.

An event whose occasion is not present does nothing: a boundary while the clock is LOST, a handler step for a message
that is not at the head, a lane result for a lane whose analysis is not under way (assumption 10). -/

namespace Sys2Proof.Machine

/-! ### Updates -/

/-- Lane `k` becomes `l`. -/
def State.setLane (s : State) (k : LaneId) (l : Lane) : State := { s with lanes := s.lanes.set k l }

/-- Slot `i`'s record becomes `v`. -/
def State.setVoice (s : State) (i : Slot) (v : Voice) : State := { s with voices := s.voices.set i v }

/-- Slot `i`'s render channel becomes `c`. -/
def State.setChannel (s : State) (i : Slot) (c : Channel) : State := { s with channels := s.channels.set i c }

/-- Lane `k`'s mixer becomes `m`. -/
def State.setMixer (s : State) (k : LaneId) (m : Mixer) : State := { s with mixers := s.mixers.set k m }

/-- Pedal `p`'s record becomes `d`. -/
def State.setPedal (s : State) (p : PedalId) (d : Pedal) : State := { s with pedals := s.pedals.set p d }

/-- Scene `n` of the bank becomes `sc`. -/
def State.setScene (s : State) (n : SceneId) (sc : Option Scene) : State := { s with scenes := s.scenes.set n sc }

/-- Raise a notice kind (R175). -/
def State.raise (s : State) (k : NoticeKind) (subject : Nat) : State :=
  { s with notices := s.notices.set k.number (raiseNotice s.notices[k.number] subject) }

/-! ### Freeing voices (R76, R77, R59, R80) -/

/-- A slot becomes FREE: it leaves both lists, its tag is released and its handle is stale (R56, R59, R80). Its generation
is kept (R47); what the freed record holds besides is not read by anything (assumption 11). -/
def State.freeVoice (s : State) (i : Slot) : State :=
  { s with
    voices := s.voices.set i (.freeSlot s.voices[i].generation)
    ageList := s.ageList.filter (· ≠ i)
    releaseList := s.releaseList.filter (· ≠ i) }

/-- A slot's render channel is cut (R159). -/
def State.cut (s : State) (i : Slot) : State := s.setChannel i (cutChannel s.channels[i])

/-- A kill (R59). -/
def State.kill (s : State) (i : Slot) : State := ((s.freeVoice i).cut i).raise .voiceFreed i

/-- A steal (R80). -/
def State.steal (s : State) (i : Slot) : State := ((s.freeVoice i).cut i).raise .voiceStolen i

/-- Several voices freed in one act in an order the manual leaves open: VOICE_FREED is raised for each; which is last is a
free value (assumption 3). -/
def State.raiseFreed (s : State) (slots : List Slot) : State :=
  match slots with
  | [] => s
  | [i] => s.raise .voiceFreed i
  | slots =>
    let last := slots.getD (Config.lastFreed s.choiceNo % slots.length) 0
    (slots.filter (· ≠ last) ++ [last]).foldl (fun s (i : Slot) => s.raise .voiceFreed i)
      { s with choiceNo := s.choiceNo + 1 }

/-- RELEASE mode of a retire (R67). -/
def State.releaseVoice (s : State) (i : Slot) : State :=
  let v := s.voices[i]
  match v.state with
  | .free => s
  | .pending => (s.freeVoice i).raise .voiceFreed i
  | .acquiring => { s.setVoice i { v with state := .releasing, levelTarget := 0 } with releaseList := s.releaseList ++ [i] }
  | .active => { s.setVoice i { v with state := .releasing, levelTarget := 0 } with releaseList := s.releaseList ++ [i] }
  | .holding => { s.setVoice i { v with state := .releasing, levelTarget := 0 } with releaseList := s.releaseList ++ [i] }
  | .releasing => s

/-- A retire in either mode (R67, R68). -/
def State.retire (s : State) (mode : RetireMode) (i : Slot) : State :=
  match mode with
  | .release => s.releaseVoice i
  | .kill => if s.voices[i].state = .free then s else s.kill i

/-- The occupied slots of the age list, oldest first, that pass a test. -/
def State.agedWhere (s : State) (test : Voice → Bool) : List Slot := s.ageList.filter fun i => test s.voices[i]

/-! ### Allocation (R78 to R81) -/

/-- The lowest-numbered FREE slot (R78). -/
def lowestFree (s : State) : Option Slot := (List.finRange 16).find? fun i => s.voices[i].state = .free

/-- The victim: the first BACKGROUND slot of the release list, else the first BACKGROUND slot of the age list that is not
PENDING (R79). -/
def victim (s : State) : Option Slot :=
  (s.releaseList.find? fun i => s.voices[i].template.group = .background) <|>
    (s.ageList.find? fun i => s.voices[i].template.group = .background ∧ s.voices[i].state ≠ .pending)

/-- The arbiter's answer: a slot, stolen if it must be, or `none` (R78 to R82). -/
def obtainSlot (s : State) : Option (Slot × State) :=
  match lowestFree s with
  | some i => some (i, s)
  | none => (victim s).map fun i => (i, s.steal i)

/-- Allocation of a FREE slot: PENDING, the generation incremented, the working part at its allocation values, the slot at
the end of the age list (R46, R76, R81). -/
def State.allocate (s : State) (i : Slot) (owner : Owner) (t : Template) : State :=
  { s with
    voices := s.voices.set i
      { Voice.freeSlot (s.voices[i].generation + 1) with template := t, state := .pending, owner := owner }
    ageList := s.ageList ++ [i] }

/-- What a PENDING voice becomes, by its lane's tracking state (R50). No voice of an OFF lane is ever activated. -/
def activated (t : Tracking) (v : Voice) : Voice :=
  match t with
  | .locked => { v with state := .active, fresh := true }
  | .hold => { v with state := .active, fresh := true }
  | .search => { v with state := .acquiring }
  | .reacquire => { v with state := .acquiring }
  | .off => { v with state := .acquiring }

/-- Activation of a PENDING voice (R50). An entry never finds its voice in another state (R98); if it did, the voice would be
left as it is. -/
def State.activate (s : State) (i : Slot) : State :=
  let v := s.voices[i]
  if v.state = .pending then s.setVoice i (activated s.lanes[v.template.lane].tracking v) else s

/-- The non-FREE voice of a lane that carries a tag (R48, R71). -/
def tagHolder (s : State) (k : LaneId) (tag : Nat) : Option Slot :=
  (List.finRange 16).find? fun i =>
    s.voices[i].state ≠ .free ∧ s.voices[i].template.lane = k ∧ s.voices[i].template.tag = tag

/-- A handle is current while its slot is not FREE and has its generation (R47). -/
def handleCurrent (s : State) (h : Handle) : Bool :=
  s.voices[h.slot].state ≠ .free && s.voices[h.slot].generation = h.generation

/-- The slot of a handle sent as two bytes, or the refusal (R47, R64, R66, R70, R73): BAD_TARGET for a slot above 15,
STALE_HANDLE for a handle that is not current. -/
inductive HandleCheck where
  | badSlot
  | stale
  | current (h : Handle)
  deriving DecidableEq, Repr

/-- Check a handle sent as a slot byte and a generation byte. A generation byte above 15 is no slot's generation. -/
def checkHandle (s : State) (slot generation : Byte) : HandleCheck :=
  match slotOf? slot with
  | none => .badSlot
  | some i =>
    if s.voices[i].state ≠ .free ∧ s.voices[i].generation.val = generation.toNat then
      .current { slot := i, generation := s.voices[i].generation }
    else .stale

/-! ### Staging (R91) -/

/-- The queue's depth limit before staging for a source (R91). -/
def depthLimit (s : State) (src : Source) : Nat := if s.cue.armed ∧ src ≠ .armedCue then 14 else 15

/-- Whether an entry of a source finds a place (R91). -/
def hasPlace (s : State) (src : Source) : Bool := s.queue.length ≤ depthLimit s src

/-- Stage an entry at the end of the queue. -/
def State.stage (s : State) (e : Entry) : State := { s with queue := s.queue ++ [e] }

/-! ### The armed cue (R126, R130, R132) -/

/-- The record goes to IDLE: remaining frames 0, the reserve ends, and a waiting FIFO head is to be tried again (R126,
R144). -/
def State.idleCue (s : State) : State :=
  { s with cue := { s.cue with armed := false, remaining := 0 }, link := { s.link with headWaits := false } }

/-- The cue fires: its TAKE is staged into the reserved place, the record becomes IDLE, CUE_FIRED is raised (R130, R132). -/
def State.fireArmed (s : State) : State :=
  ((s.stage (.take s.cue.scene)).idleCue).raise .cueFired s.cue.scene

/-- The cue expires (R131). -/
def State.expireCue (s : State) : State :=
  match s.cue.action with
  | .take => ((s.stage (.take s.cue.scene)).idleCue).raise .cueExpired s.cue.scene
  | .drop => s.idleCue.raise .cueExpired s.cue.scene

/-! ### The setlist (R122) -/

/-- The three moves a step can ask for. -/
inductive StepAsk where
  | next
  | prev
  | goto (p : Nat)
  deriving DecidableEq, Repr

/-- What a step comes to. -/
inductive StepOutcome where
  | empty
  | beyond
  | move (p : Nat)
  | endReached
  deriving DecidableEq, Repr

/-- The decision table of R122. -/
def decideStep (l : Setlist) (ask : StepAsk) : StepOutcome :=
  if l.entries.length = 0 then .empty
  else
    match ask with
    | .goto p => if p < l.entries.length then .move p else .beyond
    | .next =>
      if l.position + 1 < l.entries.length then .move (l.position + 1)
      else if l.wrap then .move 0 else .endReached
    | .prev =>
      if 0 < l.position then .move (l.position - 1)
      else if l.wrap then .move (l.entries.length - 1) else .endReached

/-- The scene at a setlist position. -/
def sceneAt (l : Setlist) (p : Nat) : SceneId := l.entries.getD p 0

/-- A move and its take are one act (R122). -/
def State.moveTo (s : State) (p : Nat) : State :=
  { s.stage (.take (sceneAt s.setlist p)) with setlist := { s.setlist with position := p } }

/-! ### The chord set (R147 to R149) -/

/-- Latch mode is set (R149). -/
def setLatch (c : ChordSet) (on : Bool) : ChordSet :=
  if on then { c with latch := true } else { entries := c.entries.filter (·.down), latch := false }

/-- The chord set is emptied; latch mode is unchanged (R149, R150). -/
def clearChord (c : ChordSet) : ChordSet := { c with entries := [] }

/-! ### The control port: frames (R183 to R187) -/

/-- SDO carried these bytes in the frame: 00h during the transaction byte, then what the transaction returns, then 00h
(R183). -/
def sdoBytes (clocked : Nat) (returned : List Byte) : List Byte := 0 :: padTo clocked returned

/-- What SDO carried is recorded. -/
def State.setSdo (s : State) (bytes : List Byte) : State := { s with port := { s.port with sdo := bytes } }

/-- A SEND frame is judged when CS_N rises (R185). SDO carried 00h throughout (assumption 12). -/
def State.judgeSend (s : State) (bytes : List Byte) (partByte : Bool) : State :=
  let s := s.setSdo (sdoBytes bytes.length [])
  if s.port.executing.isSome then { s with port := { s.port with overrun := true } }
  else
    match (if partByte then none else Command.ofBytes bytes) with
    | some c => { s with port := { s.port with executing := some c, resultReady := false } }
    | none => { s with port := { s.port with framing := true } }

/-! ### The control port: commands (R186, R188) -/

/-- The refusal codes of R188. -/
inductive RefusalCode where
  | unknownCommand | badLength | badParam | badTarget
  | staleHandle | tagInUse | notFound | noCorrection | sceneEmpty
  | poolFull | queueFull | cueArmed
  | laneOff
  deriving DecidableEq, Repr

/-- Kind and code of a refusal (R188). -/
def RefusalCode.bytes : RefusalCode → Byte × Byte
  | .unknownCommand => (1, 1)
  | .badLength => (1, 2)
  | .badParam => (1, 3)
  | .badTarget => (1, 4)
  | .staleHandle => (2, 5)
  | .tagInUse => (2, 6)
  | .notFound => (2, 7)
  | .noCorrection => (2, 8)
  | .sceneEmpty => (2, 9)
  | .poolFull => (3, 10)
  | .queueFull => (3, 11)
  | .cueArmed => (3, 12)
  | .laneOff => (4, 13)

/-- What taking a command comes to: its effects with its result bytes, or a refusal with its detail byte. -/
inductive Answer where
  | done (s : State) (bytes : List Byte)
  | refused (code : RefusalCode) (detail : Nat)
  deriving DecidableEq, Repr

/-- The refusal record of a refusal of a command (R188). -/
def refusalOf (command : Byte) (code : RefusalCode) (detail : Nat) : RefusalRecord :=
  { kind := code.bytes.1, code := code.bytes.2, command := command, detail := byte detail }

/-- The four bytes of a refusal record. -/
def RefusalRecord.bytes (r : RefusalRecord) : List Byte := [r.kind, r.code, r.command, r.detail]

/-- Completion with DONE: the result is written, RESULT_READY is set and EXECUTING is cleared (R186). -/
def State.completeDone (s : State) (bytes : List Byte) : State :=
  { s with port := { s.port with executing := none, resultReady := true,
                                 result := { completion := .done, bytes := bytes } } }

/-- Completion with REFUSED: the refusal record and the result are written, and nothing else changes (R186, R188). -/
def State.completeRefused (s : State) (command : Byte) (code : RefusalCode) (detail : Nat) : State :=
  { s with port := { s.port with executing := none, resultReady := true, refusal := refusalOf command code detail,
                                 result := { completion := .refused, bytes := (refusalOf command code detail).bytes } } }

/-- Completion of a command's answer. -/
def State.complete (s : State) (command : Byte) : Answer → State
  | .done t bytes => t.completeDone bytes
  | .refused code detail => s.completeRefused command code detail

/-- The three stages of R186 for the latched command `c`: the code, the declared length, the command taken. -/
def State.takeCommand (s : State) (c : Command) (act : State → Answer) : State :=
  match requiredLength c.code with
  | none => s.completeRefused c.code .unknownCommand 0
  | some n =>
    if c.frame.declared.toNat = n then s.complete c.code (act s)
    else s.completeRefused c.code .badLength c.frame.declared.toNat

/-- The step of a port-command row, `take` being the taking of its command. Where the port is executing this very command, it is
taken. Otherwise the row stands for the SEND frame that carries the command and, if the port accepts it, its taking
(assumption 13): a port that executes another command discards the frame with OVERRUN, and a frame of the wrong length is
discarded with FRAMING. -/
def State.commandRow (s : State) (c : Command) (take : State → State) : State :=
  if s.inReset then s
  else if s.port.executing = some c then take s
  else
    let t := s.judgeSend c.bytes false
    if t.port.executing = some c then take t else t

/-- The step of a port command that is taken in one act (R186). -/
def State.runCommand (s : State) (c : Command) (act : State → Answer) : State :=
  s.commandRow c fun t => t.takeCommand c act

/-- A command that stages needs a place for a CONTROL entry (R91, R92). -/
def State.withPlace (s : State) (answer : Answer) : Answer :=
  if hasPlace s .control then answer else .refused .queueFull s.queue.length

end Sys2Proof.Machine
end

