-- ==== Sys2Proof/Machine/Notices.lean ====
section
/-! DEFINITION. Notices, attention and pedals (chapter 11): the notice commands, the pedal lines and their bindings, the pedal
commands. -/

namespace Sys2Proof.Machine

/-! ### Notices -/

/-- FETCH NOTICE (R177). -/
def answerFetchNotice (s : State) : Answer :=
  match chosenNotice s.notices with
  | none => .done s [0xFF, 0, 0]
  | some k =>
    .done { s with notices := s.notices.set k (clearNotice s.notices[k]) }
      [byte k.val, byte s.notices[k].count, byte s.notices[k].subject]

/-- FETCH_NOTICE. -/
def execFetchNotice (f : CommandFrame) (s : State) : Host.Outcome State Fault Refusal :=
  .next (s.runCommand ⟨0x03, f⟩ answerFetchNotice)

/-- A three-byte set of notice kinds as a number whose bit k stands for kind k (R191). -/
def noticeSet (b0 b1 b2 : Byte) : Nat := b0.toNat * 65536 + b1.toNat * 256 + b2.toNat

/-- The seventeen enable flags and groups written as one act (R178). -/
def writeNotices (ns : Vector Notice 17) (enable urgent : Nat) : Vector Notice 17 :=
  ns.mapFinIdx fun k n _ => { n with enabled := enable.testBit k, urgent := urgent.testBit k }

/-- SET NOTICES (R178). -/
def answerSetNotices (f : CommandFrame) (s : State) : Answer :=
  .done { s with notices := writeNotices s.notices (noticeSet (operand f 0) (operand f 1) (operand f 2))
                              (noticeSet (operand f 3) (operand f 4) (operand f 5)) } []

/-- SET_NOTICES. -/
def execSetNotices (f : CommandFrame) (s : State) : Host.Outcome State Fault Refusal :=
  .next (s.runCommand ⟨0x04, f⟩ (answerSetNotices f))

/-! ### Pedals (R180, R181) -/

/-- A pedal action that finds no place is lost (R93). -/
def State.overflow (s : State) (p : PedalId) : State := s.raise .queueOverflow p.val

/-- A setlist step from a pedal (R122, R123, R93). -/
def State.pedalStep (s : State) (p : PedalId) (ask : StepAsk) : State :=
  match decideStep s.setlist ask with
  | .empty => s.raise .setlistEnd 0
  | .beyond => s
  | .move q => if hasPlace s .pedal then s.moveTo q else s.overflow p
  | .endReached => s.raise .setlistEnd s.setlist.position

/-- A toggle's LANE_SETTINGS entry, from the settings as applied (R90, R181, R93). -/
def State.pedalToggle (s : State) (p : PedalId) (k : LaneId) (g : LaneSettings → LaneSettings) : State :=
  if hasPlace s .pedal then s.stage (.laneSettings k (g s.lanes[k].settings)) else s.overflow p

/-- A press runs its pedal's binding (R181). -/
def State.runBinding (s : State) (p : PedalId) : State :=
  match s.pedals[p].binding with
  | .none => s
  | .setlistNext => s.pedalStep p .next
  | .setlistPrev => s.pedalStep p .prev
  | .freezeToggle k => s.pedalToggle p k fun st => { st with freeze := !st.freeze }
  | .bypassToggle k => s.pedalToggle p k fun st => { st with bypass := !st.bypass }
  | .fireCue => if s.cue.armed then s.fireArmed else s
  | .chordClear => { s with chord := clearChord s.chord }

/-- A change of held state is taken: the new state, the PEDAL notice, and on a press the binding (R180). -/
def State.takePedalChange (s : State) (p : PedalId) (closed : Bool) : State :=
  let t := (s.setPedal p { s.pedals[p] with closed := closed, differing := false }).raise .pedal
    (p.val * 2 + flag closed 1)
  if closed then t.runBinding p else t

/-- One sample of a pedal line: a change is taken at the second of two consecutive samples opposite to the held state
(R180). -/
def State.pedalSample (p : PedalId) (s : State) (closed : Bool) : State :=
  let d := s.pedals[p]
  if closed = d.closed then s.setPedal p { d with differing := false }
  else if d.differing then s.takePedalChange p closed
  else s.setPedal p { d with differing := true }

/-- PEDAL (R180, R181): the samples of one pedal line, up to and with the one that takes the change. -/
def execPedal (p : PedalId) (samples : List Bool) (s : State) : Host.Outcome State Fault Refusal :=
  .next (if s.inReset then s else samples.foldl (State.pedalSample p) s)

/-! ### The pedal commands (R182) -/

/-- The four bindings of SET PEDALS, checked pedal by pedal: an error is the detail of a BAD_PARAM. -/
def bindingsOf (f : CommandFrame) : Except Nat (Vector Binding 4) :=
  match bindingOf 0 (dataByte f 0) (dataByte f 1) with
  | .error e => .error e
  | .ok b0 =>
    match bindingOf 1 (dataByte f 2) (dataByte f 3) with
    | .error e => .error e
    | .ok b1 =>
      match bindingOf 2 (dataByte f 4) (dataByte f 5) with
      | .error e => .error e
      | .ok b2 =>
        match bindingOf 3 (dataByte f 6) (dataByte f 7) with
        | .error e => .error e
        | .ok b3 => .ok #v[b0, b1, b2, b3]

/-- The pedals with new bindings; held states and waiting samples are unchanged. -/
def bindPedals (ps : Vector Pedal 4) (bs : Vector Binding 4) : Vector Pedal 4 :=
  #v[{ ps[0] with binding := bs[0] }, { ps[1] with binding := bs[1] }, { ps[2] with binding := bs[2] },
     { ps[3] with binding := bs[3] }]

/-- SET PEDALS (R182). -/
def answerSetPedals (f : CommandFrame) (s : State) : Answer :=
  match bindingsOf f with
  | .error detail => .refused .badParam detail
  | .ok bs => .done { s with pedals := bindPedals s.pedals bs } []

/-- SET_PEDALS. -/
def execSetPedals (f : CommandFrame) (s : State) : Host.Outcome State Fault Refusal :=
  .next (s.runCommand ⟨0x60, f⟩ (answerSetPedals f))

/-- READ PEDALS (R182). -/
def answerReadPedals (s : State) : Answer :=
  .done s (s.pedals.toList.flatMap (fun d => bindingBytes d.binding) ++ s.pedals.toList.map fun d => boolByte d.closed)

/-- READ_PEDALS. -/
def execReadPedals (f : CommandFrame) (s : State) : Host.Outcome State Fault Refusal :=
  .next (s.runCommand ⟨0x61, f⟩ answerReadPedals)

end Sys2Proof.Machine
end

