-- ==== Sys2Proof/Machine/Lanes.lean ====
section
/-! DEFINITION. Input lanes (chapter 1): how a lane takes a result, and the four lane commands of the control port. What
the lane's voices and the armed cue do with the outcome stands in Machine/Results.lean. -/

namespace Sys2Proof.Machine

/-! ### Runs, limits, classification (R4, R5) -/

/-- The confirmation run cleared: candidate none, count 0. -/
def clearConfirm (l : Lane) : Lane := { l with candidate := none, confirmCount := 0 }

/-- The octave run cleared: length 0, direction UP. -/
def clearOctave (l : Lane) : Lane := { l with octaveLength := 0, octaveDirection := .up }

/-- Both runs cleared. -/
def clearRuns (l : Lane) : Lane := clearOctave (clearConfirm l)

/-- P, N_cur and D invalid; they stand at 0. -/
def clearPitch (l : Lane) : Lane := { l with p := 0, n := 0, d := 0 }

/-- Whether a pitch lies within the lane's low and high limits now in force. -/
def inLimits (c : LaneChars) (x : Int) : Bool := c.lowLimit ≤ x && x ≤ c.highLimit

/-- The class of a result: the first of the four checks that fails, or VOICED (R4). -/
def classify (c : LaneChars) (r : LaneResult) : ResultClass :=
  if !r.voiced then .notVoiced
  else if r.confidence.toNat < c.threshold then .lowConfidence
  else if r.period < 512 ∨ 12800 < r.period then .periodRange
  else if inLimits c (rawPitch r.period) then .voiced
  else .outOfLimits

/-- A voiced result extends the confirmation run with a candidate note (R5). -/
def extendRun (l : Lane) (note : Int) : Lane :=
  if l.candidate = some note then { l with confirmCount := l.confirmCount + 1 }
  else { l with candidate := some note, confirmCount := 1 }

/-- Whether the run is complete: its count reaches or passes the confirm frames (R5). -/
def runComplete (l : Lane) : Bool := l.chars.confirmFrames ≤ l.confirmCount

/-- What a lane hands its neighbours besides its own new state (R14). -/
structure LaneEvents where
  locked  : Bool := false
  lost    : Bool := false
  arrival : Option Int := none
  deriving DecidableEq, Repr

/-! ### Octave-jump correction (R15 to R17) -/

/-- The sign of a suspect octave jump, +1 or −1 (R15). -/
def suspectSign (c : LaneChars) (p raw : Int) : Option Int :=
  if c.octaveWindow = 0 then none
  else if |raw - p - 1200| ≤ c.octaveWindow then some 1
  else if |raw - p + 1200| ≤ c.octaveWindow then some (-1)
  else none

/-- The direction of a sign. -/
def directionOf (sign : Int) : Direction := if 0 < sign then .up else .down

/-- The octave run's length after a suspect result of a direction (R15). -/
def suspectLength (l : Lane) (dir : Direction) : Nat :=
  if 0 < l.octaveLength ∧ l.octaveDirection = dir then l.octaveLength + 1 else 1

/-- The octave check: the pitch to accept, and the lane with its octave run, last-correction record and correction count
as they then stand (R15, R16, R17). -/
def octaveCheck (l : Lane) (raw : Int) : Int × Lane :=
  match suspectSign l.chars l.p raw with
  | none => (raw, clearOctave l)
  | some sign =>
    let n := suspectLength l (directionOf sign)
    let corrected := raw - 1200 * sign
    if n < l.chars.octavePersist ∧ inLimits l.chars corrected then
      (corrected,
        { l with
          octaveLength := n
          octaveDirection := directionOf sign
          correction := { raw := raw, corrected := corrected, direction := directionOf sign,
                          resultNumber := l.resultCount, valid := true }
          correctionCount := min 65535 (l.correctionCount + 1) })
    else (raw, clearOctave l)

/-! ### The note decision (R19, R20) -/

/-- D = P − ref − 100·N_cur (R20). -/
def withDeviation (l : Lane) (ref : Int) : Lane := { l with d := l.p - ref - 100 * l.n }

/-- The note decision on the lane's P, then D (R19, R20). -/
def noteDecision (l : Lane) (ref : Int) : Lane × LaneEvents :=
  let note := candidateNote l.p ref
  if note = l.n ∨ |l.p - ref - 100 * l.n| ≤ 50 + l.chars.hysteresis then (withDeviation (clearConfirm l) ref, {})
  else
    let run := extendRun l note
    if runComplete run then (withDeviation { clearConfirm run with n := note } ref, { arrival := some note })
    else (withDeviation run ref, {})

/-! ### Transitions (R6 to R12) -/

/-- A lock on a pitch and a note, with both runs cleared (R6, R11). -/
def lockLane (l : Lane) (p note ref : Int) : Lane :=
  withDeviation { clearRuns l with tracking := .locked, p := p, n := note } ref

/-- A voiced result in LOCKED: octave check, pitch update, note decision (R7). -/
def voicedLocked (l : Lane) (raw ref : Int) : Lane × LaneEvents :=
  noteDecision { (octaveCheck l raw).2 with p := (octaveCheck l raw).1, tracking := .locked } ref

/-- A voiced result, by the tracking state (R6, R7, R9, R11). -/
def takeVoiced (l : Lane) (raw ref : Int) : Lane × LaneEvents :=
  match l.tracking with
  | .off => (l, {})
  | .search =>
    let run := extendRun l (candidateNote raw ref)
    if runComplete run then
      (lockLane l raw (candidateNote raw ref) ref, { locked := true, arrival := some (candidateNote raw ref) })
    else (run, {})
  | .locked => voicedLocked l raw ref
  | .hold => voicedLocked { l with counter := 0 } raw ref
  | .reacquire =>
    ({ lockLane l raw (candidateNote raw ref) ref with counter := 0 },
      { locked := true, arrival := some (candidateNote raw ref) })

/-- To REACQUIRE, with the counter at reacquire frames. -/
def toReacquire (l : Lane) : Lane := { l with tracking := .reacquire, counter := l.chars.reacquireFrames }

/-- To SEARCH, with P, N_cur and D invalid. -/
def toSearch (l : Lane) : Lane := { clearPitch l with tracking := .search }

/-- An unvoiced result, by the tracking state (R6, R8, R10, R12). It clears both runs in every state. -/
def takeUnvoiced (lane : Lane) : Lane × LaneEvents :=
  let l := clearRuns lane
  match l.tracking with
  | .off => (l, {})
  | .search => (l, {})
  | .locked =>
    if ¬inLimits l.chars l.p then (toReacquire l, {})
    else if l.chars.holdFrames = 0 then (toReacquire l, {})
    else ({ l with tracking := .hold, counter := l.chars.holdFrames }, {})
  | .hold =>
    if ¬inLimits l.chars l.p then (toReacquire l, {})
    else if l.counter - 1 = 0 then (toReacquire l, {})
    else ({ l with counter := l.counter - 1 }, {})
  | .reacquire =>
    if l.counter - 1 = 0 then (toSearch { l with counter := 0 }, { lost := true })
    else ({ l with counter := l.counter - 1 }, {})

/-- A lane in ON mode takes a result: the count, the confidence, the class, then the transition (R3, R4). -/
def takeResult (l : Lane) (r : LaneResult) (ref : Int) : Lane × LaneEvents :=
  let l := { l with resultCount := (l.resultCount + 1) % 65536, lastConfidence := r.confidence,
                    lastClass := classify l.chars r }
  if l.lastClass = .voiced then takeVoiced l (rawPitch r.period) ref else takeUnvoiced l

/-! ### Mode changes, clock return, reset (R2, R24, R26) -/

/-- A lane set to SEARCH: runs cleared, counter 0, P, N_cur and D invalid (R2, R24). -/
def searchLane (l : Lane) : Lane := { clearPitch (clearRuns l) with tracking := .search, counter := 0 }

/-- The lane's response to a mode applied at a boundary (R2). -/
def applyMode (l : Lane) (on : Bool) : Lane :=
  match l.settings.on, on with
  | false, false => l
  | false, true => searchLane { l with settings := { l.settings with on := true } }
  | true, true => l
  | true, false => { searchLane { l with settings := { l.settings with on := false } } with tracking := .off }

/-- A lane at the clock's return (R24). -/
def clockReturnLane (l : Lane) : Lane := if l.settings.on then searchLane l else l

/-- A lane after a soft reset (R26). A result under way still completes (`due` is kept). -/
def softResetLane (l : Lane) : Lane :=
  { Lane.reset with
    settings := { l.settings with bypass := false, freeze := false }
    tracking := if l.settings.on then .search else .off
    chars := l.chars
    due := l.due }

/-! ### The lane commands -/

/-- SET LANE CHARACTERISTICS (R21). -/
def answerSetLaneCharacteristics (f : CommandFrame) (s : State) : Answer :=
  match laneOf? (operand f 0) with
  | none => .refused .badTarget (operand f 0).toNat
  | some k =>
    match laneCharsOf f with
    | .error detail => .refused .badParam detail
    | .ok chars => .done (s.setLane k { s.lanes[k] with chars := chars }) []

/-- SET_LANE_CHARACTERISTICS. -/
def execSetLaneCharacteristics (f : CommandFrame) (s : State) : Host.Outcome State Fault Refusal :=
  .next (s.runCommand ⟨0x10, f⟩ (answerSetLaneCharacteristics f))

/-- READ LANE (R23). -/
def answerReadLane (f : CommandFrame) (s : State) : Answer :=
  match laneOf? (operand f 0) with
  | none => .refused .badTarget (operand f 0).toNat
  | some k => .done s (laneImage s.lanes[k])

/-- READ_LANE. -/
def execReadLane (f : CommandFrame) (s : State) : Host.Outcome State Fault Refusal :=
  .next (s.runCommand ⟨0x11, f⟩ (answerReadLane f))

/-- READ LAST CORRECTION (R18). -/
def answerReadLastCorrection (f : CommandFrame) (s : State) : Answer :=
  match laneOf? (operand f 0) with
  | none => .refused .badTarget (operand f 0).toNat
  | some k =>
    let l := s.lanes[k]
    if l.correction.valid then
      .done (s.setLane k { l with correction := { l.correction with valid := false } }) (correctionBytes l)
    else .refused .noCorrection k.val

/-- READ_LAST_CORRECTION. -/
def execReadLastCorrection (f : CommandFrame) (s : State) : Host.Outcome State Fault Refusal :=
  .next (s.runCommand ⟨0x12, f⟩ (answerReadLastCorrection f))

/-- LANE SETTINGS (R99). -/
def answerLaneSettings (f : CommandFrame) (s : State) : Answer :=
  match laneOf? (operand f 0) with
  | none => .refused .badTarget (operand f 0).toNat
  | some k =>
    match laneSettingsOf f with
    | .error detail => .refused .badParam detail
    | .ok st => s.withPlace (.done (s.stage (.laneSettings k st)) (laneSettingsBytes st))

/-- LANE_SETTINGS. -/
def execLaneSettings (f : CommandFrame) (s : State) : Host.Outcome State Fault Refusal :=
  .next (s.runCommand ⟨0x13, f⟩ (answerLaneSettings f))

end Sys2Proof.Machine
end

