-- ==== Sys2Proof/Machine/Voices.lean ====
section
/-! DEFINITION. The voice table (chapter 3): what a voice does at a result of its lane, and the voice commands of the
control port. -/

namespace Sys2Proof.Machine

/-! ### Acting at a lane result (R51 to R56) -/

/-- The states that act at lane results (R51). -/
def actsAtResults (st : VoiceState) : Bool := st ≠ .free && st ≠ .pending

/-- The voice computation with a level target, then freeze capture (R51, parts 2 and 3; R57). -/
def computeAndCapture (v : Voice) (target : Nat) (c : VoiceContext) : Voice :=
  let w := compute { v with levelTarget := target } c
  if c.freeze ∧ w.frozen = none then { w with frozen := some w.nt } else w

/-- Step 7 alone toward level 0 (R54). -/
def fadeAlone (v : Voice) : Voice := stepLevel { v with levelTarget := 0 }

/-- Release completion: a RELEASING voice at level 0 becomes FREE (R56). -/
def finishRelease (v : Voice) : Voice :=
  if v.state = .releasing ∧ v.level = 0 then { v with state := .free } else v

/-- At a result that leaves the lane LOCKED (R52). -/
def actLocked (v : Voice) (c : VoiceContext) : Voice :=
  match v.state with
  | .free => v
  | .pending => v
  | .acquiring => computeAndCapture { v with state := .active, fresh := true } v.template.level c
  | .active => computeAndCapture v v.template.level c
  | .holding => computeAndCapture { v with state := .active } v.template.level c
  | .releasing => finishRelease (computeAndCapture v 0 c)

/-- At a result that leaves the lane in HOLD (R53). -/
def actHold (v : Voice) (c : VoiceContext) : Voice :=
  match v.state with
  | .free => v
  | .pending => v
  | .acquiring => v
  | .active => computeAndCapture { v with state := .holding } v.template.level c
  | .holding => computeAndCapture v v.template.level c
  | .releasing => finishRelease (computeAndCapture v 0 c)

/-- At a result that leaves the lane in REACQUIRE (R54). -/
def actReacquire (v : Voice) : Voice :=
  match v.state with
  | .free => v
  | .pending => v
  | .acquiring => fadeAlone v
  | .active => fadeAlone { v with state := .holding }
  | .holding => fadeAlone v
  | .releasing => finishRelease (fadeAlone v)

/-- Sent to ACQUIRING, silent: level and target 0, the frozen note dropped, not fresh, O kept (R55, R61). -/
def toAcquiring (v : Voice) : Voice :=
  { v with state := .acquiring, level := 0, levelTarget := 0, frozen := none, fresh := false }

/-- At a result that leaves the lane in SEARCH (R55). -/
def actSearch (v : Voice) : Voice :=
  match v.state with
  | .free => v
  | .pending => v
  | .acquiring => { v with level := 0, levelTarget := 0 }
  | .active => toAcquiring v
  | .holding => toAcquiring v
  | .releasing => { v with state := .free }

/-- What a voice does at a result of its lane; FREE says that it is freed (R51). An OFF lane has no voices. -/
def voiceAct (c : VoiceContext) (v : Voice) : Voice :=
  match c.tracking with
  | .off => v
  | .search => actSearch v
  | .locked => actLocked v c
  | .hold => actHold v c
  | .reacquire => actReacquire v

/-- What the voices of a lane read at its result (R28, R29, R51). -/
def contextOf (s : State) (k : LaneId) : VoiceContext :=
  { tracking := s.lanes[k].tracking, p := s.lanes[k].p, n := s.lanes[k].n, d := s.lanes[k].d,
    freeze := s.lanes[k].settings.freeze, keyMap := s.keyMap, chordSet := chordPitchSet s.chord }

/-- Whether slot `i` holds a voice that acts at a result of lane `k`. -/
def actsFor (s : State) (k : LaneId) (i : Slot) : Bool :=
  s.voices[i].template.lane = k && actsAtResults s.voices[i].state

/-- Slot `i` acts at a result of lane `k`: its record, and the values handed to its channel; a freed slot leaves a next
gain of 0 (R51, R157). -/
def State.actSlot (k : LaneId) (c : VoiceContext) (s : State) (i : Slot) : State :=
  if actsFor s k i then
    let v := voiceAct c s.voices[i]
    if v.state = .free then (s.freeVoice i).setChannel i { s.channels[i] with nextGain := 0 }
    else (s.setVoice i v).setChannel i (handOver v s.channels[i])
  else s

/-- The slots that a result of lane `k` frees. -/
def freedBy (k : LaneId) (c : VoiceContext) (s : State) : List Slot :=
  (List.finRange 16).filter fun i => actsFor s k i && (voiceAct c s.voices[i]).state = .free

/-- The voices of lane `k` act on the lane's new state (R51); VOICE_FREED is raised for each that is freed (R55, R56). -/
def State.actVoices (s : State) (k : LaneId) : State :=
  ((List.finRange 16).foldl (State.actSlot k (contextOf s k)) s).raiseFreed (freedBy k (contextOf s k) s)

/-! ### Freeze at a boundary (R57, R58) -/

/-- Capture at a boundary (R57). -/
def captureFrozen (v : Voice) : Voice :=
  if (v.state = .active ∨ v.state = .holding ∨ v.state = .releasing) ∧ ¬v.fresh ∧ v.frozen = none then
    { v with frozen := some v.nt }
  else v

/-- Every voice of lane `k` changed by `g`. -/
def State.mapLaneVoices (s : State) (k : LaneId) (g : Voice → Voice) : State :=
  { s with voices := s.voices.map fun v => if v.template.lane = k then g v else v }

/-! ### Clock return (R61) -/

/-- A voice at the clock's return; RELEASING voices are freed beside this. -/
def clockReturnVoice (v : Voice) : Voice :=
  match v.state with
  | .free => v
  | .pending => v
  | .acquiring => v
  | .active => toAcquiring v
  | .holding => toAcquiring v
  | .releasing => v

/-- The voice table at the clock's return (R61): RELEASING slots are freed with VOICE_FREED, ACTIVE and HOLDING voices
become ACQUIRING. -/
def State.clockReturnVoices (s : State) : State :=
  let freed := (List.finRange 16).filter fun i => s.voices[i].state = .releasing
  let s := freed.foldl State.freeVoice s
  State.raiseFreed { s with voices := s.voices.map clockReturnVoice } freed

/-! ### The voice commands -/

/-- CREATE VOICE: the six checks of R62 in order, then the allocation, the staged entry and the handle (R63). -/
def answerCreateVoice (f : CommandFrame) (s : State) : Answer :=
  match laneOf? (operand f 0) with
  | none => .refused .badTarget (operand f 0).toNat
  | some k =>
    if ¬s.lanes[k].settings.on then .refused .laneOff k.val
    else
      match templateOf (dataByte f) (some k) with
      | .error field => .refused .badParam field
      | .ok t =>
        match tagHolder s k t.tag with
        | some holder => .refused .tagInUse holder.val
        | none =>
          if ¬hasPlace s .control then .refused .queueFull s.queue.length
          else
            match obtainSlot s with
            | none => .refused .poolFull k.val
            | some (i, s') =>
              let s'' := s'.allocate i .control t
              .done (s''.stage (.create { slot := i, generation := s''.voices[i].generation }))
                [byte i.val, byte s''.voices[i].generation.val]

/-- CREATE_VOICE. -/
def execCreateVoice (f : CommandFrame) (s : State) : Host.Outcome State Fault Refusal :=
  .next (s.runCommand ⟨0x20, f⟩ (answerCreateVoice f))

/-- MODIFY VOICE (R64). -/
def answerModifyVoice (f : CommandFrame) (s : State) : Answer :=
  match checkHandle s (operand f 0) (operand f 1) with
  | .badSlot => .refused .badTarget (operand f 0).toNat
  | .stale => .refused .staleHandle (operand f 0).toNat
  | .current h =>
    match modificationOf (operand f 2) (operand f 3) (operand f 4) with
    | none => .refused .badParam (operand f 2).toNat
    | some (.error field) => .refused .badParam field
    | some (.ok m) => s.withPlace (.done (s.stage (.modify h m)) (modificationBytes m))

/-- MODIFY_VOICE. -/
def execModifyVoice (f : CommandFrame) (s : State) : Host.Outcome State Fault Refusal :=
  .next (s.runCommand ⟨0x21, f⟩ (answerModifyVoice f))

/-- RETIRE VOICE (R66). -/
def answerRetireVoice (f : CommandFrame) (s : State) : Answer :=
  match checkHandle s (operand f 0) (operand f 1) with
  | .badSlot => .refused .badTarget (operand f 0).toNat
  | .stale => .refused .staleHandle (operand f 0).toNat
  | .current h =>
    match retireModeOf? (operand f 2) with
    | none => .refused .badParam h.slot.val
    | some mode => s.withPlace (.done (s.stage (.retire h mode)) [])

/-- RETIRE_VOICE. -/
def execRetireVoice (f : CommandFrame) (s : State) : Host.Outcome State Fault Refusal :=
  .next (s.runCommand ⟨0x22, f⟩ (answerRetireVoice f))

/-- RETIRE LANE (R69). -/
def answerRetireLane (f : CommandFrame) (s : State) : Answer :=
  match laneOf? (operand f 0) with
  | none => .refused .badTarget (operand f 0).toNat
  | some k =>
    match retireModeOf? (operand f 1), ownerFilterOf? (operand f 2) with
    | some mode, some filter => s.withPlace (.done (s.stage (.retireLane k mode filter)) [])
    | _, _ => .refused .badParam k.val

/-- RETIRE_LANE. -/
def execRetireLane (f : CommandFrame) (s : State) : Host.Outcome State Fault Refusal :=
  .next (s.runCommand ⟨0x23, f⟩ (answerRetireLane f))

/-- READ VOICE (R70). -/
def answerReadVoice (f : CommandFrame) (s : State) : Answer :=
  match checkHandle s (operand f 0) (operand f 1) with
  | .badSlot => .refused .badTarget (operand f 0).toNat
  | .stale => .refused .staleHandle (operand f 0).toNat
  | .current h => .done s (voiceImage s.voices[h.slot])

/-- READ_VOICE. -/
def execReadVoice (f : CommandFrame) (s : State) : Host.Outcome State Fault Refusal :=
  .next (s.runCommand ⟨0x24, f⟩ (answerReadVoice f))

/-- FIND VOICE (R71). -/
def answerFindVoice (f : CommandFrame) (s : State) : Answer :=
  match laneOf? (operand f 0) with
  | none => .refused .badTarget (operand f 0).toNat
  | some k =>
    match (if operand f 1 = 0 then none else tagHolder s k (operand f 1).toNat) with
    | none => .refused .notFound k.val
    | some i =>
      .done s [byte i.val, byte s.voices[i].generation.val, byte (voiceStateCode s.voices[i].state)]

/-- FIND_VOICE. -/
def execFindVoice (f : CommandFrame) (s : State) : Host.Outcome State Fault Refusal :=
  .next (s.runCommand ⟨0x25, f⟩ (answerFindVoice f))

/-- LIST VOICES (R72). -/
def answerListVoices (s : State) : Answer :=
  .done s (((List.finRange 16).map fun i => byte (voiceStateCode s.voices[i].state)) ++ [byte (freeCount s)])

/-- LIST_VOICES. -/
def execListVoices (f : CommandFrame) (s : State) : Host.Outcome State Fault Refusal :=
  .next (s.runCommand ⟨0x26, f⟩ answerListVoices)

/-- The answers of TEST SETTLED. -/
inductive Settled where
  | settled | gliding | silent | releasing
  deriving DecidableEq, Repr

/-- The first row of R73 that applies. -/
def settledAnswer (v : Voice) : Settled :=
  if v.state = .releasing then .releasing
  else if v.state = .pending ∨ v.state = .acquiring then .silent
  else if v.levelTarget = 0 then .silent
  else if v.o = v.t then .settled
  else .gliding

/-- Codes of the answers (R191). -/
def settledCode : Settled → Byte
  | .settled => 0
  | .gliding => 1
  | .silent => 2
  | .releasing => 3

/-- TEST SETTLED (R73). -/
def answerTestSettled (f : CommandFrame) (s : State) : Answer :=
  match checkHandle s (operand f 0) (operand f 1) with
  | .badSlot => .refused .badTarget (operand f 0).toNat
  | .stale => .refused .staleHandle (operand f 0).toNat
  | .current h => .done s [settledCode (settledAnswer s.voices[h.slot])]

/-- TEST_SETTLED. -/
def execTestSettled (f : CommandFrame) (s : State) : Host.Outcome State Fault Refusal :=
  .next (s.runCommand ⟨0x27, f⟩ (answerTestSettled f))

end Sys2Proof.Machine
end

