-- ==== Sys2Proof/Machine/Queue.lean ====
section
/-! DEFINITION. The application of the change queue at a frame boundary (section 5.3), the take among its entries
(section 6.3). -/

namespace Sys2Proof.Machine

/-! ### LANE_SETTINGS entries (R2, R57, R58, R100, R161) -/

/-- Every voice of lane `k` is killed, oldest first (R2, R100). -/
def State.killLane (s : State) (k : LaneId) : State :=
  (s.agedWhere fun v => v.template.lane = k).foldl State.kill s

/-- Freeze turning on captures, turning off drops (R57, R58, R100). -/
def State.freezeChange (s : State) (k : LaneId) (before after : Bool) : State :=
  if !before && after then s.mapLaneVoices k captureFrozen
  else if before && !after then s.mapLaneVoices k fun v => { v with frozen := none }
  else s

/-- The stored settings and the mixer targets they set (R100, R161). -/
def State.storeSettings (s : State) (k : LaneId) (st : LaneSettings) : State :=
  (s.setLane k { s.lanes[k] with settings := st }).setMixer k (retarget s.mixers[k] st)

/-- A LANE_SETTINGS entry applied: mode, stored settings, freeze (R100). -/
def State.applySettings (s : State) (k : LaneId) (st : LaneSettings) : State :=
  let old := s.lanes[k].settings
  let moded := s.setLane k (applyMode s.lanes[k] st.on)
  let killed := if old.on && !st.on then moded.killLane k else moded
  (killed.storeSettings k st).freezeChange k old.freeze st.freeze

/-! ### The take (R115 to R118) -/

/-- Step 3: the four lanes in order, with freeze off (R116). -/
def State.takeLanes (s : State) (lanes : Vector SceneLane 4) : State :=
  (List.finRange 4).foldl
    (fun s k => s.applySettings k
      { on := lanes[k].on, bypass := lanes[k].bypass, freeze := false, dry := lanes[k].dry }) s

/-- Whether a take retires a voice in step 4 (R117). -/
def takeRetires (mode : TakeMode) (v : Voice) : Bool :=
  (v.owner = .scene || mode = .clearAll) && v.state ≠ .free && v.state ≠ .releasing

/-- Step 4: the outgoing voices retired in RELEASE mode, oldest first (R117). -/
def State.retireOutgoing (s : State) (mode : TakeMode) : State :=
  (s.agedWhere (takeRetires mode)).foldl State.releaseVoice s

/-- The template loop of a take: the state, the slots placed, the number skipped. -/
structure Placement where
  state   : State
  placed  : List Slot
  skipped : Nat
  deriving DecidableEq, Repr

/-- The tag check of a take (R49): a RELEASING holder is killed; `none` says that the template is skipped. -/
def clearTag (s : State) (t : Template) : Option State :=
  match tagHolder s t.lane t.tag with
  | none => some s
  | some i => if s.voices[i].state = .releasing then some (s.kill i) else none

/-- One template of a take (R83). A template whose tag kill was made stays so when no slot is found after it. -/
def placeTemplate (a : Placement) (t : Template) : Placement :=
  match clearTag a.state t with
  | none => { a with skipped := a.skipped + 1 }
  | some s =>
    match obtainSlot s with
    | none => { a with state := s, skipped := a.skipped + 1 }
    | some (i, s') => { a with state := s'.allocate i .scene t, placed := a.placed ++ [i] }

/-- Step 5: the templates in index order, then the activations, then SCENE_SHORT (R83, R118). -/
def State.placeTemplates (s : State) (templates : List Template) : State :=
  let a := templates.foldl placeTemplate { state := s, placed := [], skipped := 0 }
  let active := a.placed.foldl State.activate a.state
  if a.skipped = 0 then active else active.raise .sceneShort a.skipped

/-- A TAKE entry applied (R115 to R119). -/
def State.applyTake (s : State) (n : SceneId) : State :=
  match s.scenes[n] with
  | none => s.raise .takeFailed n.val
  | some sc =>
    let brought := (({ s with keyMap := sc.keyMap }.takeLanes sc.lanes).retireOutgoing sc.takeMode).placeTemplates
      sc.templates
    { brought with currentScene := some n }.raise .sceneTaken n.val

/-! ### Entries (R97, R98) -/

/-- A stale entry is dropped (R97). -/
def State.dropStale (s : State) (h : Handle) : State := s.raise .stageDropped h.slot.val

/-- A MODIFY entry applied to a current handle: a level modification leaves a RELEASING voice unchanged (R65). -/
def State.applyModify (s : State) (i : Slot) (m : Modification) : State :=
  let v := s.voices[i]
  match m, v.state with
  | .level _, .releasing => s
  | m, _ => s.setVoice i { v with template := modifyTemplate v.template m }

/-- Whether an owner passes a filter (R69). -/
def ownerPasses : OwnerFilter → Owner → Bool
  | .all, _ => true
  | .control, o => o = .control
  | .scene, o => o = .scene

/-- A RETIRE_LANE entry applied (R69). -/
def State.applyRetireLane (s : State) (k : LaneId) (mode : RetireMode) (filter : OwnerFilter) : State :=
  (s.agedWhere fun v => v.template.lane = k && ownerPasses filter v.owner).foldl (fun s i => s.retire mode i) s

/-- One entry applied to the state the entries before it have left (R97, R98). -/
def State.applyEntry (s : State) : Entry → State
  | .create h => if handleCurrent s h then s.activate h.slot else s.dropStale h
  | .modify h m => if handleCurrent s h then s.applyModify h.slot m else s.dropStale h
  | .retire h mode => if handleCurrent s h then s.retire mode h.slot else s.dropStale h
  | .retireLane k mode filter => s.applyRetireLane k mode filter
  | .laneSettings k st => s.applySettings k st
  | .keyMap k => { s with keyMap := k }
  | .take n => s.applyTake n

/-- The application: every entry, oldest first, and the queue is empty; a waiting FIFO head is to be tried again (R96,
R144). -/
def State.applyQueue (s : State) : State :=
  s.queue.foldl State.applyEntry { s with queue := [], link := { s.link with headWaits := false } }

end Sys2Proof.Machine
end

