-- ==== Sys2Proof/Machine/Clock.lean ====
section
/-! DEFINITION. The word clock supervisor and the resets (chapter 10), with the render channels' fades and ramps at the
events of the clock. -/

namespace Sys2Proof.Machine

/-! ### Edges that no row names (R167, R169, assumption 14) -/

/-- The edges left before the one that the table has a row for: the frame boundary in PRESENT, the settling's completion
in SETTLING. In LOST there are none. -/
def edgesLeft (c : Supervisor) : Nat :=
  match c.state with
  | .present => Config.frameLength - 1 - c.period
  | .settling => Config.settleLength - 1 - c.settle
  | .lost => 0

/-- The supervisor after `n` such edges: each restarts the gap timer and is counted (R167, R169). -/
def countEdges (n : Nat) (c : Supervisor) : Supervisor :=
  if n = 0 then c
  else
    match c.state with
    | .present => { c with period := c.period + n, gap := 0 }
    | .settling => { c with settle := c.settle + n, gap := 0 }
    | .lost => c

/-- `n` word-clock edges that no row names, with the word-clock periods they begin. -/
def State.runEdges (n : Nat) (s : State) : State :=
  { s.samplePeriods n with clock := countEdges n s.clock }

/-- One such edge, if one is left: what the block does when no command waits (assumption 14). -/
def State.idleEdge (s : State) : State := if s.inReset ∨ edgesLeft s.clock = 0 then s else s.runEdges 1

/-! ### The frame boundary (R167) -/

/-- The armed cue's countdown at a boundary (R131). -/
def State.countdown (s : State) : State :=
  if s.cue.armed ∧ 0 < s.cue.timeout then
    if s.cue.remaining ≤ 1 then s.expireCue
    else { s with cue := { s.cue with remaining := s.cue.remaining - 1 } }
  else s

/-- A lane's analysis begins at a boundary, or is abandoned at the clock's loss (R167, R168). -/
def setDue (due : Bool) (l : Lane) : Lane := { l with due := due }

/-- The supervisor at a boundary (R167). -/
def boundaryClock (c : Supervisor) : Supervisor :=
  { c with period := 0, gap := 0, frame := (c.frame + 1) % 65536, countdownTaken := false }

/-- The 256th edge (R167): the queue's application, the countdown unless it has been taken, the channels' ramps, the
lanes' analyses begin; then the first period of the next frame. -/
def State.boundaryActs (s : State) : State :=
  let s := s.applyQueue
  let s := if s.clock.countdownTaken then s else s.countdown
  { s with
    channels := s.channels.map startRamp
    lanes := s.lanes.map (setDue true)
    clock := boundaryClock s.clock }.samplePeriods 1

/-- The edges before the 256th, and the 256th. -/
def State.frameBoundary (s : State) : State := (s.runEdges (edgesLeft s.clock)).boundaryActs

/-- FRAME_BOUNDARY (R167). -/
def execFrameBoundary (s : State) : Host.Outcome State Fault Refusal :=
  .next (if ¬s.inReset ∧ s.clock.state = .present then s.frameBoundary else s)

/-- Whether the countdown of the boundary at hand brings the count to 0 (R131). -/
def cueExpires (s : State) : Bool :=
  !s.inReset && s.clock.state = .present && !s.clock.countdownTaken && s.cue.armed && 0 < s.cue.timeout &&
    s.cue.remaining ≤ 1

/-- CUE_EXPIRED (R131): the countdown of the boundary at hand taken before the application, as its own act; the edges
before the boundary have gone by. -/
def execCueExpired (s : State) : Host.Outcome State Fault Refusal :=
  .next (if cueExpires s then
      let t := s.runEdges (edgesLeft s.clock)
      { t.expireCue with clock := { t.clock with countdownTaken := true } }
    else s)

/-- The samples left in the fade of slot `i`'s channel. -/
def fadeLeft (s : State) (i : Slot) : Nat := Config.frameLength - s.channels[i].position

/-- CUT_FADE_END (R159): the rest of the fade's samples are made, if no boundary falls among them, and the channel is
SILENT. -/
def execCutFadeEnd (i : Slot) (s : State) : Host.Outcome State Fault Refusal :=
  .next (if ¬s.inReset ∧ s.channels[i].state = .cutting ∧ fadeLeft s i ≤ edgesLeft s.clock then
      let t := s.runEdges (fadeLeft s i)
      t.setChannel i (silenced t.channels[i])
    else s)

/-! ### Clock loss and return (R168 to R170) -/

/-- The entry to LOST (R168). -/
def State.loseClock (s : State) : State :=
  { s with
    lanes := s.lanes.map (setDue false)
    audio := { s.audio with out := silentOut }
    clock := { s.clock with state := .lost, gap := Config.gapLimit, settle := 0, period := 0, countdownTaken := false }
  }.raise .clockLost 0

/-- CLOCK_LOST (R168). -/
def execClockLost (s : State) : Host.Outcome State Fault Refusal :=
  .next (if ¬s.inReset ∧ s.clock.state = .present then s.loseClock else s)

/-- The first edge in LOST, with the word-clock period it begins (R169). -/
def State.startSettling (s : State) : State :=
  { s with clock := { s.clock with state := .settling, settle := 1, gap := 0 } }.samplePeriods 1

/-- SETTLING_START (R169). -/
def execSettlingStart (s : State) : Host.Outcome State Fault Refusal :=
  .next (if ¬s.inReset ∧ s.clock.state = .lost then s.startSettling else s)

/-- SETTLING_ABORT (R169). -/
def execSettlingAbort (s : State) : Host.Outcome State Fault Refusal :=
  .next (if ¬s.inReset ∧ s.clock.state = .settling then
      { s with clock := { s.clock with state := .lost, settle := 0, gap := Config.gapLimit } }
    else s)

/-- A mixer at the entry to PRESENT: both gains 0, then ramps toward the targets (R165). -/
def returnMixer (l : Lane) : Mixer := retarget { dry := .zero, bypass := .zero } l.settings

/-- The render channels and mixers at the entry to PRESENT (R165). -/
def State.clockReturnRender (s : State) : State :=
  { s with
    channels := s.channels.map silenceChannel
    mixers := s.lanes.map returnMixer }

/-- The entry to PRESENT (R170): counts to 0, the lanes, the voices, the channels and mixers, CLOCK_BACK; then the first
period. -/
def State.enterPresent (s : State) : State :=
  let s := { s with
    clock := { s.clock with state := .present, gap := 0, settle := Config.settleLength, period := 0, frame := 0 }
    lanes := s.lanes.map clockReturnLane }
  (s.clockReturnVoices.clockReturnRender.raise .clockBack 0).samplePeriods 1

/-- CLOCK_BACK (R170): the settling's last edges before the 512th, and the 512th. -/
def execClockBack (s : State) : Host.Outcome State Fault Refusal :=
  .next (if ¬s.inReset ∧ s.clock.state = .settling then (s.runEdges (edgesLeft s.clock)).enterPresent else s)

/-! ### Resets (R172 to R174) -/

/-- The pedals at the end of a hard reset: the lines' first samples set the held states (R180, R182). -/
def resetPedals (closed : Vector Bool 4) : Vector Pedal 4 :=
  closed.map fun c => { binding := .none, closed := c, differing := false }

/-- The end of a hard reset with its cause: every block at its hard-reset values, then RESTARTED (R172, R174). The
model's own counters and the waiting commands are no part of the machine that is reset. -/
def State.hardReset (s : State) (cause : ResetCause) (closed : Vector Bool 4) : State :=
  { State.reset with
    clock := { State.reset.clock with cause := cause }
    notices := Notice.resetAll
    pedals := resetPedals closed
    sampleNo := s.sampleNo
    choiceNo := s.choiceNo
    pending := s.pending }.raise .restarted (causeCode cause)

/-- A hard reset lasts (R172): SDO is low, ATTN_N and CUE_HOLD are released, the TDM outputs are 0. The records keep what they
held until it ends (assumption 26). -/
def State.holdReset (s : State) (hold : Hold) : State :=
  { s with
    hold := hold
    port := { s.port with sdo := [] }
    link := { s.link with hold := false }
    audio := { s.audio with out := silentOut } }

/-- POWER_ON (R172): the supply rises through the threshold. The reset ends, unless RESET_N is still low. -/
def execPowerOn (closed : Vector Bool 4) (s : State) : Host.Outcome State Fault Refusal :=
  .next (match s.hold with
    | .running => s.hardReset .powerOn closed
    | .supply false => s.hardReset .powerOn closed
    | .supply true => s.holdReset .pinAfterSupply
    | .pin => s.holdReset .pinAfterSupply
    | .pinAfterSupply => s)

/-- RESET_N falls (R172). -/
def State.resetPinFalls (s : State) : State :=
  match s.hold with
  | .running => s.holdReset .pin
  | .supply _ => s.holdReset (.supply true)
  | .pin => s
  | .pinAfterSupply => s

/-- RESET_N rises: the reset ends, with cause POWER_ON if RESET_N was still low when the supply came up, unless the supply is below
threshold (R172). -/
def State.resetPinRises (s : State) (closed : Vector Bool 4) : State :=
  match s.hold with
  | .running => s
  | .pin => s.hardReset .resetPin closed
  | .supply _ => s.holdReset (.supply false)
  | .pinAfterSupply => s.hardReset .powerOn closed

/-- RESET_PIN (R172). -/
def execResetPin (edge : ResetPinEdge) (s : State) : Host.Outcome State Fault Refusal :=
  .next (match edge with
    | .falls => s.resetPinFalls
    | .rises closed => s.resetPinRises closed)

/-- What holds the part once the supply is below threshold: RESET_N's level is as it was (R172). -/
def supplyLost : Hold → Hold
  | .running => .supply false
  | .supply resetNLow => .supply resetNLow
  | .pin => .supply true
  | .pinAfterSupply => .supply true

/-- SUPPLY_BELOW_THRESHOLD (R172). -/
def execSupplyBelowThreshold (s : State) : Host.Outcome State Fault Refusal := .next (s.holdReset (supplyLost s.hold))

/-- A mixer at a soft reset: the bypass target becomes 0 (R166). -/
def softResetMixer (m : Mixer) : Mixer := { m with bypass := setRampTarget m.bypass 0 }

/-- A notice record at a soft reset keeps its enable flag and group (R179). -/
def softResetNotice (n : Notice) : Notice := clearNotice n

/-- A slot at a soft reset: FREE, its generation kept (R75). -/
def softResetVoice (v : Voice) : Voice := .freeSlot v.generation

/-- A pedal at a soft reset: a differing sample that waits for its second is discarded (R180). -/
def softResetPedal (d : Pedal) : Pedal := { d with differing := false }

/-- The soft reset act (R173, R174): what was prepared for the show is kept, what was sounding or in flight is set to its
reset value, and RESTARTED is raised. -/
def State.softReset (s : State) : State :=
  { s with
    lanes := s.lanes.map softResetLane
    voices := s.voices.map softResetVoice
    ageList := []
    releaseList := []
    queue := []
    currentScene := none
    setlist := { s.setlist with position := 0 }
    cue := { s.cue with armed := false, remaining := 0 }
    link := .reset
    chord := { s.chord with entries := [] }
    channels := s.channels.map softResetChannel
    mixers := s.mixers.map softResetMixer
    clock := { s.clock with frame := 0, cause := .restartCommand }
    notices := s.notices.map softResetNotice
    pedals := s.pedals.map softResetPedal
    port := { s.port with resultReady := false, result := .cleared, refusal := .cleared }
  }.raise .restarted (causeCode .restartCommand)

/-- RESTART taken whole: the soft reset act, then its own result with the reset cause (R173). -/
def answerRestart (s : State) : Answer := .done s.softReset [byte (causeCode .restartCommand)]

/-- The reset act alone: the RESTART goes on executing (R173). -/
def State.makeResetAct (s : State) : State :=
  let t := s.softReset
  { t with port := { t.port with resetActMade := true } }

/-- The last part of a RESTART whose reset act has been made: its own result is written (R173). -/
def State.finishRestart (s : State) : State :=
  { s with port := { s.port with resetActMade := false } }.completeDone [byte (causeCode .restartCommand)]

/-- The taking of a RESTART (R173, R186). Its execution is one step, or two with other events between them: the reset act, and the
writing of the result (assumption 22). -/
def State.takeRestart (r : RestartStep) (s : State) : State :=
  if r.frame.declared = 0 ∧ s.port.resetActMade then (if r.actOnly then s else s.finishRestart)
  else if r.frame.declared = 0 ∧ r.actOnly then s.makeResetAct
  else s.takeCommand ⟨0x05, r.frame⟩ answerRestart

/-- RESTART. -/
def execRestart (r : RestartStep) (s : State) : Host.Outcome State Fault Refusal :=
  .next (s.commandRow ⟨0x05, r.frame⟩ (State.takeRestart r))

end Sys2Proof.Machine
end

