-- ==== Sys2Proof/Machine/CueLink.lean ====
section
/-! DEFINITION. The cue link and the chord set (chapter 8): the receiver's line and bytes, the handler of the receive FIFO, and the
three cue-link commands of the control port. -/

namespace Sys2Proof.Machine

/-! ### Faults (R141) -/

/-- The fault kinds. -/
inductive LinkFault where
  | stray | framing | check | content | overrun
  deriving DecidableEq, Repr

/-- Fault codes (R141). -/
def faultCode : LinkFault → Nat
  | .stray => 1
  | .framing => 2
  | .check => 3
  | .content => 4
  | .overrun => 5

/-- A fault's count goes up by one, saturating at 255. -/
def countFault (c : FaultCounts) : LinkFault → FaultCounts
  | .stray => { c with stray := min 255 (c.stray + 1) }
  | .framing => { c with framing := min 255 (c.framing + 1) }
  | .check => { c with check := min 255 (c.check + 1) }
  | .content => { c with content := min 255 (c.content + 1) }
  | .overrun => { c with overrun := min 255 (c.overrun + 1) }

/-- A receive fault: counted, and CUE_LINK_FAULT raised with its code (R141). -/
def State.linkFault (s : State) (k : LinkFault) : State :=
  { s with link := { s.link with faults := countFault s.link.faults k } }.raise .cueLinkFault (faultCode k)

/-! ### The line (R137, R138) -/

/-- What the samples of the line bring: a byte whose stop bit sampled high, or a framing fault. -/
inductive LineEvent where
  | byte (b : Byte)
  | fault
  deriving DecidableEq, Repr

/-- The byte of eight data bits, the least significant first. -/
def byteOfBits (bits : List Bool) : Byte := BitVec.ofNat 8 (bits.foldr (fun bit n => bit.toNat + 2 * n) 0)

/-- One sample of the line (R137): in idle it is the middle of a start bit, where a high line was noise; after it come eight data
bits and the stop bit. While the receiver waits for a high line it looks for no start bit (R138). -/
def sampleLine (line : Line) (high : Bool) : Line × Option LineEvent :=
  match line with
  | .waitHigh => (.waitHigh, none)
  | .idle => if high then (.idle, none) else (.receiving [], none)
  | .receiving bits =>
    if bits.length < Config.byteBits then (.receiving (bits ++ [high]), none)
    else if high then (.idle, some (.byte (byteOfBits bits)))
    else (.waitHigh, some .fault)

/-- A run of samples: the line after it, and what it brought, in order. -/
def runLine (line : Line) : List Bool → Line × List LineEvent
  | [] => (line, [])
  | high :: rest =>
    let one := sampleLine line high
    let others := runLine one.1 rest
    (others.1, one.2.toList ++ others.2)

/-- The receiver's line becomes `line`. -/
def State.setLine (s : State) (line : Line) : State := { s with link := { s.link with line := line } }

/-- The partial message becomes `bytes`. -/
def State.setPartial (s : State) (bytes : List Byte) : State := { s with link := { s.link with partialBytes := bytes } }

/-- A low stop bit (R138): the byte and any partial message are discarded, the fault is counted, and the receiver waits for the
line to be high. -/
def State.framingFault (s : State) : State := ((s.setLine .waitHigh).setPartial []).linkFault .framing

/-- The step of a cue-link row with its samples, at a part that is not held in reset. Samples that bring no byte are noise on an
idle line, or leave a byte in progress; a low stop bit is a framing fault. With the one byte that the samples bring the row does
`act`, and `none` says that the byte is not this row's: then the row does nothing (assumptions 10 and 20). -/
def State.lineRow (s : State) (samples : List Bool) (act : State → Byte → Option State) : State :=
  if s.inReset then s
  else
    match runLine s.link.line samples with
    | (line, []) => s.setLine line
    | (line, [.byte b]) => (act (s.setLine line) b).getD s
    | (_, [.fault]) => s.framingFault
    | _ => s

/-- FRAMING (R137, R138): the byte in progress, or the next one, ends with a low stop bit; its data bits, which the row does not
carry, are discarded (assumption 20). -/
def execFraming (s : State) : Host.Outcome State Fault Refusal :=
  .next (if ¬s.inReset ∧ s.link.line ≠ .waitHigh then s.framingFault else s)

/-! ### Message assembly (R139) -/

/-- Whether a byte is stray (R139): a start byte during a partial message, or a data byte with none open. -/
def isStray (s : State) (b : Byte) : Bool := b.msb = !s.link.partialBytes.isEmpty

/-- STRAY (R139): a stray data byte is discarded; a stray start byte discards the partial message and begins another. -/
def State.strayByte (s : State) (b : Byte) : State :=
  (s.setPartial (if b.msb then [b] else [])).linkFault .stray

/-- What STRAY does with its byte. -/
def actStray (s : State) (b : Byte) : Option State := if isStray s b then some (s.strayByte b) else none

/-- STRAY. -/
def execStray (samples : List Bool) (s : State) : Host.Outcome State Fault Refusal :=
  .next (s.lineRow samples actStray)

/-- Whether a byte begins or extends a partial message (R139, rows 1 and 4). -/
def extendsPartial (s : State) (b : Byte) : Bool :=
  if b.msb then s.link.partialBytes.isEmpty else s.link.partialBytes.length = 1 || s.link.partialBytes.length = 2

/-- What PARTIAL_MESSAGE does with its byte (R139). -/
def actPartialMessage (s : State) (b : Byte) : Option State :=
  if extendsPartial s b then some (s.setPartial (s.link.partialBytes ++ [b])) else none

/-- PARTIAL_MESSAGE. -/
def execPartialMessage (samples : List Bool) (s : State) : Host.Outcome State Fault Refusal :=
  .next (s.lineRow samples actPartialMessage)

/-- LINE_HIGH_BIT_TIME (R138): the receiver is idle, with no message open. -/
def State.lineHigh (s : State) : State := { s with link := { s.link with line := .idle, partialBytes := [] } }

/-- LINE_HIGH_BIT_TIME. -/
def execLineHighBitTime (s : State) : Host.Outcome State Fault Refusal :=
  .next (if ¬s.inReset ∧ s.link.line = .waitHigh then s.lineHigh else s)

/-! ### Complete messages (R140, R142) -/

/-- The check byte of a start byte and two data bytes: their sum mod 128 (section 8.2). -/
def checkByte (start d1 d2 : Byte) : Byte := byte ((start.toNat + d1.toNat + d2.toNat) % 128)

/-- The content of a message by its start byte and data byte 1; `none` is a CONTENT fault (R140, check 2). -/
def messageOf? (start d1 : Byte) : Option CueMessage :=
  if start = 0x81 then (if d1.toNat ≤ 119 then some (.keyDown d1.toNat) else none)
  else if start = 0x82 then (if d1.toNat ≤ 119 then some (.keyUp d1.toNat) else none)
  else if start = 0x83 then some .keysClear
  else if start = 0x84 then (flagOf? d1.toNat).map .latch
  else if start = 0x85 then (sceneOf? d1).map .sceneCue
  else if start = 0x86 then (if d1 = 1 then some (.setlistStep true) else if d1 = 2 then some (.setlistStep false) else none)
  else if start = 0x87 then some .cueFire
  else none

/-- The FIFO becomes `fifo`, and CUE_HOLD follows its depth in the same act (R142, R145). -/
def State.setFifo (s : State) (fifo : List CueMessage) : State :=
  { s with link := { s.link with fifo := fifo, hold := holdAfter fifo.length s.link.hold } }

/-- A good message joins the FIFO, or is discarded as OVERRUN (R142). -/
def State.joinFifo (s : State) (m : CueMessage) : State :=
  if s.link.fifo.length < Config.fifoSize then s.setFifo (s.link.fifo ++ [m]) else s.linkFault .overrun

/-- A complete message is examined: check, content, room (R140). -/
def State.examine (s : State) (start d1 d2 check : Byte) : State :=
  let s := s.setPartial []
  if check ≠ checkByte start d1 d2 then s.linkFault .check
  else
    match messageOf? start d1 with
    | none => s.linkFault .content
    | some m => s.joinFifo m

/-- What CUE_LINK_MESSAGE does with its byte: a check byte completes a partial message of three bytes, which is examined (R139,
R140). -/
def actCueLinkMessage (s : State) (check : Byte) : Option State :=
  match s.link.partialBytes with
  | [start, d1, d2] => if check.msb then none else some (s.examine start d1 d2 check)
  | _ => none

/-- CUE_LINK_MESSAGE. -/
def execCueLinkMessage (samples : List Bool) (s : State) : Host.Outcome State Fault Refusal :=
  .next (s.lineRow samples actCueLinkMessage)

/-! ### The handler (R143, R144, R147 to R149) -/

/-- The message the handler can take: the FIFO's head, unless it waits for a place (R143, R144). -/
def handlerHead (s : State) : Option CueMessage :=
  if s.inReset || s.link.headWaits then none else s.link.fifo.head?

/-- The head leaves the FIFO in the act of its effect (R142, R143). -/
def State.popHead (s : State) : State := s.setFifo s.link.fifo.tail

/-- The head finds no place and waits (R144). -/
def State.waitHead (s : State) : State := { s with link := { s.link with headWaits := true } }

/-- A KEY_DOWN on the chord set (R147). -/
def keyDownChord (c : ChordSet) (note : Nat) : ChordSet :=
  let restarted := if c.latch && !c.entries.isEmpty && c.entries.all (fun e => !e.down) then [] else c.entries
  if restarted.any (fun e => e.note = note) then
    { c with entries := restarted.map fun e => if e.note = note then { e with down := true } else e }
  else
    { c with entries := (if Config.chordSize ≤ restarted.length then restarted.tail else restarted) ++
                          [{ note := note, down := true }] }

/-- A KEY_UP on the chord set (R148). -/
def keyUpChord (c : ChordSet) (note : Nat) : ChordSet :=
  if c.latch then { c with entries := c.entries.map fun e => if e.note = note then { e with down := false } else e }
  else { c with entries := c.entries.filter fun e => e.note ≠ note }

/-- KEY_DOWN (R147). -/
def execKeyDown (s : State) : Host.Outcome State Fault Refusal :=
  match handlerHead s with
  | some (.keyDown note) => .next { s.popHead with chord := keyDownChord s.chord note }
  | _ => .next s

/-- KEY_UP (R148). -/
def execKeyUp (s : State) : Host.Outcome State Fault Refusal :=
  match handlerHead s with
  | some (.keyUp note) => .next { s.popHead with chord := keyUpChord s.chord note }
  | _ => .next s

/-- KEYS_CLEAR (R149). -/
def execKeysClear (s : State) : Host.Outcome State Fault Refusal :=
  match handlerHead s with
  | some .keysClear => .next { s.popHead with chord := clearChord s.chord }
  | _ => .next s

/-- LATCH (R149). -/
def execLatch (s : State) : Host.Outcome State Fault Refusal :=
  match handlerHead s with
  | some (.latch on) => .next { s.popHead with chord := setLatch s.chord on }
  | _ => .next s

/-- SCENE_CUE (R143, R144): staged with source CUE_LINK, or left waiting at the head. -/
def execSceneCue (s : State) : Host.Outcome State Fault Refusal :=
  match handlerHead s with
  | some (.sceneCue n) => .next (if hasPlace s .cueLink then s.popHead.stage (.take n) else s.waitHead)
  | _ => .next s

/-- A SETLIST_STEP taken from the head, decided from the setlist as it stands (R122, R123, R144). -/
def State.linkStep (s : State) (forward : Bool) : State :=
  match decideStep s.setlist (if forward then .next else .prev) with
  | .empty => s.popHead.raise .setlistEnd 0
  | .beyond => s
  | .move p => if hasPlace s .cueLink then s.popHead.moveTo p else s.waitHead
  | .endReached => s.popHead.raise .setlistEnd s.setlist.position

/-- SETLIST_STEP (R143, R144, R123). -/
def execSetlistStep (s : State) : Host.Outcome State Fault Refusal :=
  match handlerHead s with
  | some (.setlistStep forward) => .next (s.linkStep forward)
  | _ => .next s

/-- CUE_FIRE (R132, R143): fires an ARMED cue, is ignored while the cue is IDLE. -/
def execCueFire (s : State) : Host.Outcome State Fault Refusal :=
  match handlerHead s with
  | some .cueFire => .next (if s.cue.armed then s.popHead.fireArmed else s.popHead)
  | _ => .next s

/-! ### The commands -/

/-- READ CHORD SET (R151). -/
def answerReadChordSet (s : State) : Answer := .done s (chordImage s.chord s.link)

/-- READ_CHORD_SET. -/
def execReadChordSet (f : CommandFrame) (s : State) : Host.Outcome State Fault Refusal :=
  .next (s.runCommand ⟨0x50, f⟩ answerReadChordSet)

/-- CLEAR CHORD SET (R150). -/
def answerClearChordSet (s : State) : Answer := .done { s with chord := clearChord s.chord } []

/-- CLEAR_CHORD_SET. -/
def execClearChordSet (f : CommandFrame) (s : State) : Host.Outcome State Fault Refusal :=
  .next (s.runCommand ⟨0x51, f⟩ answerClearChordSet)

/-- SET CUE LINK (R152). -/
def answerSetCueLink (f : CommandFrame) (s : State) : Answer :=
  match flagOf? (operand f 0).toNat with
  | none => .refused .badParam 0
  | some on =>
    match flagOf? (operand f 1).toNat with
    | none => .refused .badParam 1
    | some zero =>
      .done
        { s with
          chord := setLatch s.chord on
          link := { s.link with faults := if zero then .zero else s.link.faults } }
        (faultBytes s.link.faults)

/-- SET_CUE_LINK. -/
def execSetCueLink (f : CommandFrame) (s : State) : Host.Outcome State Fault Refusal :=
  .next (s.runCommand ⟨0x52, f⟩ (answerSetCueLink f))

end Sys2Proof.Machine
end

