-- ==== Sys2Proof/Machine/Cues.lean ====
section
/-! DEFINITION. The armed cue's commands (chapter 7). The countdown stands in Machine/Clock.lean, the match in
Machine/Results.lean. -/

namespace Sys2Proof.Machine

/-- ARM CUE: the nine checks of R127 in order, then the record (R128). -/
def answerArmCue (f : CommandFrame) (s : State) : Answer :=
  let set : PitchSet := BitVec.ofNat 12 (unsigned16 (dataByte f 2) (dataByte f 3))
  let timeout := min 4095 (unsigned16 (dataByte f 4) (dataByte f 5))
  match sceneOf? (dataByte f 0) with
  | none => .refused .badTarget (dataByte f 0).toNat
  | some n =>
    match laneOf? (dataByte f 1) with
    | none => .refused .badTarget (dataByte f 1).toNat
    | some k =>
      if set = 0 then .refused .badParam 2
      else
        match expiryActionOf? (dataByte f 6) with
        | none => .refused .badParam 4
        | some action =>
          if s.cue.armed then .refused .cueArmed s.cue.scene.val
          else if s.scenes[n].isNone then .refused .sceneEmpty n.val
          else if ¬s.lanes[k].settings.on then .refused .laneOff k.val
          else if 16 ≤ s.queue.length then .refused .queueFull 16
          else
            .done { s with cue := { armed := true, scene := n, lane := k, matchSet := set, timeout := timeout,
                                    action := action, remaining := timeout } } (bytes16 timeout)

/-- ARM_CUE. -/
def execArmCue (f : CommandFrame) (s : State) : Host.Outcome State Fault Refusal :=
  .next (s.runCommand ⟨0x40, f⟩ (answerArmCue f))

/-- DISARM CUE (R129): the result is the state the record had. -/
def answerDisarmCue (s : State) : Answer :=
  if s.cue.armed then .done s.idleCue [1] else .done s [0]

/-- DISARM_CUE. -/
def execDisarmCue (f : CommandFrame) (s : State) : Host.Outcome State Fault Refusal :=
  .next (s.runCommand ⟨0x41, f⟩ answerDisarmCue)

/-- FIRE CUE from the control port (R132). -/
def answerFireCue (s : State) : Answer :=
  if s.cue.armed then .done s.fireArmed [byte s.cue.scene.val] else .refused .notFound 0

/-- FIRE_CUE. -/
def execFireCue (f : CommandFrame) (s : State) : Host.Outcome State Fault Refusal :=
  .next (s.runCommand ⟨0x42, f⟩ answerFireCue)

end Sys2Proof.Machine
end

