-- ==== Sys2Proof/Machine/Port.lean ====
section
/-! DEFINITION. The control port (chapter 12): its frames, the unknown command, READ STATUS and READ REFUSAL. -/

namespace Sys2Proof.Machine

/-! ### Frames (R183 to R187, R190) -/

/-- The first `n` bits of a byte, the most significant first, and 0 for the rest. -/
def firstBits (n : Nat) (b : Byte) : Byte := b &&& ~~~((0xFF : Byte) >>> n)

/-- What SDO carries in a frame that a reset act fell into after some SCLK edges: its bits up to the act, then 00h for the rest
(R190); `none` for a frame without a reset act. -/
def sdoUpTo (resetAfter : Option Nat) (bytes : List Byte) : List Byte :=
  match resetAfter with
  | none => bytes
  | some edges => bytes.mapIdx fun i b => firstBits (edges - Config.byteBits * i) b

/-- Whether a frame's transaction byte has been received before a reset act, so that a POLL or a FETCH has made its own act (R184,
R187); a reset act that comes earlier discards the frame whole (R190). -/
def transactionTaken (resetAfter : Option Nat) : Bool := resetAfter.all (Config.byteBits ≤ ·)

/-- A POLL frame: the status is copied, OVERRUN and FRAMING are cleared, and SDO carries the copy (R184). -/
def State.pollFrame (s : State) (clocked : Nat) (resetAfter : Option Nat) : State :=
  { s with port := { s.port with overrun := false, framing := false,
                                 sdo := sdoUpTo resetAfter (sdoBytes clocked [statusByte s.port]) } }

/-- POLL (R184, R190). -/
def execPoll (clocked : Nat) (resetAfter : Option Nat) (s : State) : Host.Outcome State Fault Refusal :=
  .next (if s.inReset then s
    else if transactionTaken resetAfter then s.pollFrame clocked resetAfter
    else s.setSdo (sdoBytes clocked []))

/-- SEND (R185). A frame in progress at a reset act is discarded with no flag (R190). -/
def execSend (bytes : List Byte) (partByte : Bool) (resetAfter : Option Nat) (s : State) :
    Host.Outcome State Fault Refusal :=
  .next (if s.inReset then s
    else if resetAfter.isSome then s.setSdo (sdoBytes bytes.length [])
    else s.judgeSend bytes partByte)

/-- Completion byte codes (R186). -/
def completionCode : Completion → Byte
  | .none => 0
  | .done => 1
  | .refused => 2

/-- What a FETCH frame returns: completion byte, length, result bytes (R187). -/
def fetchBytes (r : CommandResult) : List Byte := completionCode r.completion :: byte r.bytes.length :: r.bytes

/-- FETCH (R187, R190). -/
def execFetch (clocked : Nat) (resetAfter : Option Nat) (s : State) : Host.Outcome State Fault Refusal :=
  .next (if s.inReset then s
    else if transactionTaken resetAfter then
      s.setSdo (sdoUpTo resetAfter (sdoBytes clocked (fetchBytes s.port.result)))
    else s.setSdo (sdoBytes clocked []))

/-- A frame with an unknown transaction byte, or with none, is discarded and sets FRAMING (R183): the first when the byte has been
received, the second when CS_N rises. A reset act that comes earlier discards it with no flag (R190, assumption 15). -/
def State.malformed (s : State) (first : Option Byte) (clocked : Nat) (resetAfter : Option Nat) : State :=
  { s with port := { s.port with
      framing := s.port.framing || (if first.isSome then transactionTaken resetAfter else resetAfter.isNone)
      sdo := if first.isSome then sdoBytes clocked [] else [] } }

/-- MALFORMED_FRAME (R183). A known transaction byte makes no malformed frame. -/
def execMalformedFrame (first : Option Byte) (clocked : Nat) (resetAfter : Option Nat) (s : State) :
    Host.Outcome State Fault Refusal :=
  .next (if s.inReset then s
    else if first.any fun b => b == 0x11 || b == 0x22 || b == 0x33 then s
    else s.malformed first clocked resetAfter)

/-! ### Commands -/

/-- UNKNOWN_COMMAND (R186): refused at the first check. A code that names a command is not this row's. -/
def execUnknownCommand (code : Byte) (f : CommandFrame) (s : State) : Host.Outcome State Fault Refusal :=
  .next (if (requiredLength code).isSome then s
    else s.runCommand ⟨code, f⟩ fun _ => .refused .unknownCommand 0)

/-- The fourteen bytes of READ STATUS (R189). -/
def statusImage (s : State) : List Byte :=
  [clockCode s.clock.state, byte (causeCode s.clock.cause)] ++ bytes16 s.clock.frame ++
  [byte s.queue.length, boolByte s.cue.armed] ++ bytes16 s.cue.remaining ++
  [byte (freeCount s), sceneByte s.currentScene, byte s.setlist.position] ++ bytes24 (pendingSet s.notices)

/-- READ STATUS (R189). -/
def answerReadStatus (s : State) : Answer := .done s (statusImage s)

/-- READ_STATUS. -/
def execReadStatus (f : CommandFrame) (s : State) : Host.Outcome State Fault Refusal :=
  .next (s.runCommand ⟨0x01, f⟩ answerReadStatus)

/-- READ REFUSAL (R188): the record, which is reset to NONE in the same act. -/
def answerReadRefusal (s : State) : Answer :=
  .done { s with port := { s.port with refusal := .cleared } } s.port.refusal.bytes

/-- READ_REFUSAL. -/
def execReadRefusal (f : CommandFrame) (s : State) : Host.Outcome State Fault Refusal :=
  .next (s.runCommand ⟨0x02, f⟩ answerReadRefusal)

end Sys2Proof.Machine
end

