-- ==== Sys2Proof/Machine/Results.lean ====
section
/-! DEFINITION. Lane results as events of the part: LANE_RESULT, and the two of its outcomes that the table lists as steps of
their own, HOLD_EXPIRY and LANE_LOST. -/

namespace Sys2Proof.Machine

/-- The notices a result raises (R6, R11, R12). -/
def State.raiseLaneEvents (s : State) (k : LaneId) (e : LaneEvents) : State :=
  let s := if e.locked then s.raise .laneLocked k.val else s
  if e.lost then s.raise .laneLost k.val else s

/-- Whether a note arrival fires the armed cue (R130). -/
def cueMatches (c : ArmedCue) (k : LaneId) (note : Int) : Bool := c.armed && c.lane = k && inPitchSet c.matchSet note

/-- The armed cue receives a note arrival (R14, R130). -/
def State.noteArrival (s : State) (k : LaneId) (arrival : Option Int) : State :=
  match arrival with
  | none => s
  | some note => if cueMatches s.cue k note then s.fireArmed else s

/-- Whether lane `k`'s analysis of the latest frame is under way, so that its result can complete (R3, R168). -/
def resultDue (s : State) (k : LaneId) : Bool := !s.inReset && s.clock.state = .present && s.lanes[k].due

/-- Lane `k`'s result completes (R3): an ON lane takes it, its voices act and the armed cue hears of an arrival (R14); an
OFF lane discards it. -/
def State.laneResult (s : State) (k : LaneId) (r : LaneResult) : State :=
  let l := { s.lanes[k] with due := false }
  if l.settings.on then
    let taken := takeResult l r s.keyMap.ref
    ((((s.setLane k taken.1).raiseLaneEvents k taken.2).actVoices k).noteArrival k taken.2.arrival)
  else s.setLane k l

/-- LANE_RESULT (R3). -/
def execLaneResult (k : LaneId) (r : LaneResult) (s : State) : Host.Outcome State Fault Refusal :=
  .next (if resultDue s k then s.laneResult k r else s)

/-- Whether a result of lane `k` ends the hold: unvoiced, in HOLD, with the counter to reach 0 or P out of limits (R10). -/
def holdExpires (s : State) (k : LaneId) (r : LaneResult) : Bool :=
  let l := s.lanes[k]
  l.settings.on && l.tracking = .hold && classify l.chars r ≠ .voiced &&
    (!inLimits l.chars l.p || l.counter - 1 = 0)

/-- HOLD_EXPIRY (R10): the lane result at which HOLD gives way to REACQUIRE. -/
def execHoldExpiry (k : LaneId) (r : LaneResult) (s : State) : Host.Outcome State Fault Refusal :=
  .next (if resultDue s k && holdExpires s k r then s.laneResult k r else s)

/-- Whether a result of lane `k` makes REACQUIRE give up: unvoiced, with the counter to reach 0 (R12). -/
def reacquireFails (s : State) (k : LaneId) (r : LaneResult) : Bool :=
  let l := s.lanes[k]
  l.settings.on && l.tracking = .reacquire && classify l.chars r ≠ .voiced && l.counter - 1 = 0

/-- LANE_LOST (R12): the lane result at which REACQUIRE gives way to SEARCH. -/
def execLaneLost (k : LaneId) (r : LaneResult) (s : State) : Host.Outcome State Fault Refusal :=
  .next (if resultDue s k && reacquireFails s k r then s.laneResult k r else s)

end Sys2Proof.Machine
end

