-- ==== Sys2Proof/Machine/Scenes.lean ====
section
/-! DEFINITION. Key map, scene bank and setlist commands of the control port (chapter 6). -/

namespace Sys2Proof.Machine

/-- SET KEY MAP (R106). -/
def answerSetKeyMap (f : CommandFrame) (s : State) : Answer :=
  match keyMapOf (operand f 0) (operand f 1) (operand f 2) (operand f 3) with
  | .error detail => .refused .badParam detail
  | .ok k => s.withPlace (.done (s.stage (.keyMap k)) (keyMapBytes k))

/-- SET_KEY_MAP. -/
def execSetKeyMap (f : CommandFrame) (s : State) : Host.Outcome State Fault Refusal :=
  .next (s.runCommand ⟨0x30, f⟩ (answerSetKeyMap f))

/-- READ KEY MAP (R107). -/
def answerReadKeyMap (s : State) : Answer := .done s (keyMapImage s.keyMap)

/-- READ_KEY_MAP. -/
def execReadKeyMap (f : CommandFrame) (s : State) : Host.Outcome State Fault Refusal :=
  .next (s.runCommand ⟨0x31, f⟩ answerReadKeyMap)

/-- LOAD SCENE (R110, R111). -/
def answerLoadScene (f : CommandFrame) (s : State) : Answer :=
  match sceneOf? (operand f 0) with
  | none => .refused .badTarget (operand f 0).toNat
  | some n =>
    match sceneOf f with
    | .error detail => .refused .badParam detail
    | .ok sc => .done (s.setScene n (some sc)) []

/-- LOAD_SCENE. -/
def execLoadScene (f : CommandFrame) (s : State) : Host.Outcome State Fault Refusal :=
  .next (s.runCommand ⟨0x32, f⟩ (answerLoadScene f))

/-- READ SCENE (R113). -/
def answerReadScene (f : CommandFrame) (s : State) : Answer :=
  match sceneOf? (operand f 0) with
  | none => .refused .badTarget (operand f 0).toNat
  | some n =>
    match s.scenes[n] with
    | none => .refused .sceneEmpty n.val
    | some sc => .done s (sceneBytes sc)

/-- READ_SCENE. -/
def execReadScene (f : CommandFrame) (s : State) : Host.Outcome State Fault Refusal :=
  .next (s.runCommand ⟨0x33, f⟩ (answerReadScene f))

/-- CLEAR SCENE (R112). -/
def answerClearScene (f : CommandFrame) (s : State) : Answer :=
  match sceneOf? (operand f 0) with
  | none => .refused .badTarget (operand f 0).toNat
  | some n => .done (s.setScene n none) []

/-- CLEAR_SCENE. -/
def execClearScene (f : CommandFrame) (s : State) : Host.Outcome State Fault Refusal :=
  .next (s.runCommand ⟨0x34, f⟩ (answerClearScene f))

/-- TAKE SCENE (R114). -/
def answerTakeScene (f : CommandFrame) (s : State) : Answer :=
  match sceneOf? (operand f 0) with
  | none => .refused .badTarget (operand f 0).toNat
  | some n =>
    match s.scenes[n] with
    | none => .refused .sceneEmpty n.val
    | some _ => s.withPlace (.done (s.stage (.take n)) [])

/-- TAKE_SCENE. -/
def execTakeScene (f : CommandFrame) (s : State) : Host.Outcome State Fault Refusal :=
  .next (s.runCommand ⟨0x35, f⟩ (answerTakeScene f))

/-- LOAD SETLIST (R120). -/
def answerLoadSetlist (f : CommandFrame) (s : State) : Answer :=
  match setlistOf f with
  | .error detail => .refused .badParam detail
  | .ok l => .done { s with setlist := l } []

/-- LOAD_SETLIST. -/
def execLoadSetlist (f : CommandFrame) (s : State) : Host.Outcome State Fault Refusal :=
  .next (s.runCommand ⟨0x36, f⟩ (answerLoadSetlist f))

/-- READ SETLIST (R121). -/
def answerReadSetlist (s : State) : Answer := .done s (setlistImage s.setlist)

/-- READ_SETLIST. -/
def execReadSetlist (f : CommandFrame) (s : State) : Host.Outcome State Fault Refusal :=
  .next (s.runCommand ⟨0x37, f⟩ answerReadSetlist)

/-- The step ADVANCE SETLIST asks for, by its step code (R191). -/
def stepAskOf? (code p : Byte) : Option StepAsk :=
  if code = 1 then some .next else if code = 2 then some .prev else if code = 3 then some (.goto p.toNat) else none

/-- ADVANCE SETLIST (R122, R123). -/
def answerAdvanceSetlist (f : CommandFrame) (s : State) : Answer :=
  match stepAskOf? (operand f 0) (operand f 1) with
  | none => .refused .badParam 0
  | some ask =>
    match decideStep s.setlist ask with
    | .empty => .refused .notFound 0
    | .beyond => .refused .badParam (operand f 1).toNat
    | .move p => s.withPlace (.done (s.moveTo p) [byte p, 1, byte (sceneAt s.setlist p).val])
    | .endReached => .done (s.raise .setlistEnd s.setlist.position) [byte s.setlist.position, 0, 0xFF]

/-- ADVANCE_SETLIST. -/
def execAdvanceSetlist (f : CommandFrame) (s : State) : Host.Outcome State Fault Refusal :=
  .next (s.runCommand ⟨0x38, f⟩ (answerAdvanceSetlist f))

end Sys2Proof.Machine
end

