-- ==== Sys2Proof/Machine/Dispatch.lean ====
section
/-! DEFINITION. The dispatch: one arm for each constructor of Instr, each a direct call of its meaning. -/

namespace Sys2Proof.Machine

def exec (i : Instr) (s : State) : Host.Outcome State Fault Refusal :=
  match i with
  | .poll clocked resetAfter => Sys2Proof.Machine.execPoll clocked resetAfter s
  | .send bytes partByte resetAfter => Sys2Proof.Machine.execSend bytes partByte resetAfter s
  | .fetch clocked resetAfter => Sys2Proof.Machine.execFetch clocked resetAfter s
  | .malformedFrame first clocked resetAfter => Sys2Proof.Machine.execMalformedFrame first clocked resetAfter s
  | .unknownCommand code f => Sys2Proof.Machine.execUnknownCommand code f s
  | .readStatus f => Sys2Proof.Machine.execReadStatus f s
  | .readRefusal f => Sys2Proof.Machine.execReadRefusal f s
  | .fetchNotice f => Sys2Proof.Machine.execFetchNotice f s
  | .setNotices f => Sys2Proof.Machine.execSetNotices f s
  | .restart r => Sys2Proof.Machine.execRestart r s
  | .setLaneCharacteristics f => Sys2Proof.Machine.execSetLaneCharacteristics f s
  | .readLane f => Sys2Proof.Machine.execReadLane f s
  | .readLastCorrection f => Sys2Proof.Machine.execReadLastCorrection f s
  | .laneSettings f => Sys2Proof.Machine.execLaneSettings f s
  | .createVoice f => Sys2Proof.Machine.execCreateVoice f s
  | .modifyVoice f => Sys2Proof.Machine.execModifyVoice f s
  | .retireVoice f => Sys2Proof.Machine.execRetireVoice f s
  | .retireLane f => Sys2Proof.Machine.execRetireLane f s
  | .readVoice f => Sys2Proof.Machine.execReadVoice f s
  | .findVoice f => Sys2Proof.Machine.execFindVoice f s
  | .listVoices f => Sys2Proof.Machine.execListVoices f s
  | .testSettled f => Sys2Proof.Machine.execTestSettled f s
  | .setKeyMap f => Sys2Proof.Machine.execSetKeyMap f s
  | .readKeyMap f => Sys2Proof.Machine.execReadKeyMap f s
  | .loadScene f => Sys2Proof.Machine.execLoadScene f s
  | .readScene f => Sys2Proof.Machine.execReadScene f s
  | .clearScene f => Sys2Proof.Machine.execClearScene f s
  | .takeScene f => Sys2Proof.Machine.execTakeScene f s
  | .loadSetlist f => Sys2Proof.Machine.execLoadSetlist f s
  | .readSetlist f => Sys2Proof.Machine.execReadSetlist f s
  | .advanceSetlist f => Sys2Proof.Machine.execAdvanceSetlist f s
  | .armCue f => Sys2Proof.Machine.execArmCue f s
  | .disarmCue f => Sys2Proof.Machine.execDisarmCue f s
  | .fireCue f => Sys2Proof.Machine.execFireCue f s
  | .readChordSet f => Sys2Proof.Machine.execReadChordSet f s
  | .clearChordSet f => Sys2Proof.Machine.execClearChordSet f s
  | .setCueLink f => Sys2Proof.Machine.execSetCueLink f s
  | .setPedals f => Sys2Proof.Machine.execSetPedals f s
  | .readPedals f => Sys2Proof.Machine.execReadPedals f s
  | .laneResult lane result => Sys2Proof.Machine.execLaneResult lane result s
  | .holdExpiry lane result => Sys2Proof.Machine.execHoldExpiry lane result s
  | .laneLost lane result => Sys2Proof.Machine.execLaneLost lane result s
  | .frameBoundary => Sys2Proof.Machine.execFrameBoundary s
  | .cueExpired => Sys2Proof.Machine.execCueExpired s
  | .cutFadeEnd slot => Sys2Proof.Machine.execCutFadeEnd slot s
  | .clockLost => Sys2Proof.Machine.execClockLost s
  | .settlingStart => Sys2Proof.Machine.execSettlingStart s
  | .settlingAbort => Sys2Proof.Machine.execSettlingAbort s
  | .clockBack => Sys2Proof.Machine.execClockBack s
  | .powerOn closed => Sys2Proof.Machine.execPowerOn closed s
  | .resetPin edge => Sys2Proof.Machine.execResetPin edge s
  | .framing => Sys2Proof.Machine.execFraming s
  | .stray samples => Sys2Proof.Machine.execStray samples s
  | .cueLinkMessage samples => Sys2Proof.Machine.execCueLinkMessage samples s
  | .keyDown => Sys2Proof.Machine.execKeyDown s
  | .keyUp => Sys2Proof.Machine.execKeyUp s
  | .keysClear => Sys2Proof.Machine.execKeysClear s
  | .latch => Sys2Proof.Machine.execLatch s
  | .sceneCue => Sys2Proof.Machine.execSceneCue s
  | .setlistStep => Sys2Proof.Machine.execSetlistStep s
  | .cueFire => Sys2Proof.Machine.execCueFire s
  | .pedal p samples => Sys2Proof.Machine.execPedal p samples s
  | .partialMessage samples => Sys2Proof.Machine.execPartialMessage samples s
  | .lineHighBitTime => Sys2Proof.Machine.execLineHighBitTime s
  | .supplyBelowThreshold => Sys2Proof.Machine.execSupplyBelowThreshold s

end Sys2Proof.Machine
end

