-- ==== Sys2Proof/Safety.lean ====
section
/-! DEFINITION. What counts as a safe state: the laws the manual states or implies of every record it keeps, and the vocabulary
in which the statements speak of a port command that is taken. Every law is decidable, so that a concrete state can be
checked. -/

namespace Sys2Proof.Machine

/-! ### Lists, queue and notices -/

/-- The change queue's law (R91): at most 16 entries, and a free place while a cue is ARMED. -/
abbrev QueueLaw (s : State) : Prop := s.queue.length ≤ 16 ∧ (s.cue.armed = true → s.queue.length ≤ 15)

/-- The notice records' law (R175): counts stay within 0 to 255, and a kind is pending exactly when its count is above 0. -/
abbrev NoticeLaw (s : State) : Prop :=
  ∀ k : Fin 17, s.notices[k].count ≤ 255 ∧ (0 < s.notices[k].count ↔ s.notices[k].pending = true)

/-- The pool's law (R76, R77): the age list holds exactly the slots that are not FREE, the release list exactly the RELEASING
ones, each once. -/
abbrev PoolLaw (s : State) : Prop :=
  s.ageList.Nodup ∧ (∀ i : Slot, i ∈ s.ageList ↔ s.voices[i].state ≠ .free) ∧
  s.releaseList.Nodup ∧ (∀ i : Slot, i ∈ s.releaseList ↔ s.voices[i].state = .releasing)

/-- Tag uniqueness (R48): no two voices of one lane carry one tag. -/
abbrev TagLaw (s : State) : Prop :=
  ∀ i j : Slot, i ≠ j → s.voices[i].state ≠ .free → s.voices[j].state ≠ .free →
    s.voices[i].template.lane = s.voices[j].template.lane → s.voices[i].template.tag ≠ s.voices[j].template.tag

/-- An OFF lane has no voices (R2, R3). -/
abbrev OffLaw (s : State) : Prop :=
  ∀ i : Slot, s.voices[i].state ≠ .free → s.lanes[s.voices[i].template.lane].settings.on = true

/-! ### Stored records -/

/-- A stored template's ranges (R44, R45). -/
abbrev TemplateLegal (t : Template) : Prop :=
  (1 ≤ t.tag ∧ t.tag ≤ 255) ∧ operandAllowed t.rule t.operand = true ∧ (-14 ≤ t.fallback ∧ t.fallback ≤ 14) ∧
  t.follow ≤ 128 ∧ (-50 ≤ t.detune ∧ t.detune ≤ 50) ∧ (12 ≤ t.lo ∧ t.lo + 12 ≤ t.hi ∧ t.hi ≤ 108) ∧ t.glide ≤ 120 ∧
  t.level ≤ 4096 ∧ t.pan ≤ 127 ∧ (1 ≤ t.attack ∧ t.attack ≤ 255) ∧ (1 ≤ t.release ∧ t.release ≤ 255)

/-- A key map's ranges (R105): the tonic is a member. -/
abbrev KeyMapLegal (k : KeyMap) : Prop := k.members.getLsbD k.tonic.val = true ∧ -50 ≤ k.ref ∧ k.ref ≤ 50

/-- The value a MODIFY entry carries is one that a template may hold (R64, R89). -/
def modificationLegal : Modification → Bool
  | .rule kind z => operandAllowed kind z
  | .fallback z => -14 ≤ z && z ≤ 14
  | .follow v => v ≤ 128
  | .detune z => -50 ≤ z && z ≤ 50
  | .range lo hi => 12 ≤ lo && lo + 12 ≤ hi && hi ≤ 108
  | .glide v => v ≤ 120
  | .level v => v ≤ 4096
  | .pan v => v ≤ 127
  | .group _ => true
  | .attack v => 1 ≤ v && v ≤ 255
  | .release v => 1 ≤ v && v ≤ 255

/-- Every value an entry carries has passed its checks and clamps (R89). -/
def entryLegal : Entry → Bool
  | .create _ => true
  | .modify _ m => modificationLegal m
  | .retire _ _ => true
  | .retireLane _ _ _ => true
  | .laneSettings _ st => st.dry ≤ 4096
  | .keyMap k => decide (KeyMapLegal k)
  | .take _ => true

/-- A LOADED scene's ranges (R109, R110): at most eight templates, each legal, on a lane the scene itself sets ON, no two with
one lane and tag. -/
abbrev SceneLegal (sc : Scene) : Prop :=
  KeyMapLegal sc.keyMap ∧ (∀ k : LaneId, sc.lanes[k].dry ≤ 4096) ∧ sc.templates.length ≤ 8 ∧
  (∀ t ∈ sc.templates, TemplateLegal t ∧ sc.lanes[t.lane].on = true) ∧
  (sc.templates.map fun t => (t.lane, t.tag)).Nodup

/-- A lane's characteristics in their ranges (R21). -/
abbrev CharsLegal (c : LaneChars) : Prop :=
  (2251 ≤ c.lowLimit ∧ c.lowLimit < c.highLimit ∧ c.highLimit ≤ 7823) ∧ c.threshold ≤ 255 ∧ c.hysteresis ≤ 45 ∧
  (1 ≤ c.confirmFrames ∧ c.confirmFrames ≤ 8) ∧ c.octaveWindow ≤ 100 ∧
  (1 ≤ c.octavePersist ∧ c.octavePersist ≤ 15) ∧ c.holdFrames ≤ 255 ∧ (1 ≤ c.reacquireFrames ∧ c.reacquireFrames ≤ 255)

/-- The setlist's ranges (R120). -/
abbrev SetlistLegal (l : Setlist) : Prop :=
  l.entries.length ≤ 64 ∧ (l.position < l.entries.length ∨ (l.entries.length = 0 ∧ l.position = 0))

/-- Everything that is stored as sent has the ranges it was checked or clamped to. -/
abbrev RecordLaw (s : State) : Prop :=
  KeyMapLegal s.keyMap ∧ SetlistLegal s.setlist ∧ (∀ e ∈ s.queue, entryLegal e = true) ∧
  (∀ n : SceneId, ∀ sc ∈ s.scenes[n], SceneLegal sc) ∧
  (∀ k : LaneId, CharsLegal s.lanes[k].chars ∧ s.lanes[k].settings.dry ≤ 4096) ∧
  (∀ i : Slot, s.voices[i].state ≠ .free → TemplateLegal s.voices[i].template)

/-! ### Working values -/

/-- The voice table's laws (R42, R43): levels within 0 to 4096, intervals within two octaves, ratios within 16384 to
262144. -/
abbrev VoiceLaw (s : State) : Prop :=
  ∀ i : Slot, s.voices[i].level ≤ 4096 ∧ s.voices[i].levelTarget ≤ 4096 ∧
    (-2400 ≤ s.voices[i].delta ∧ s.voices[i].delta ≤ 2400) ∧
    (16384 ≤ s.voices[i].ratio ∧ s.voices[i].ratio ≤ 262144)

/-- One lane's tracking law: OFF exactly in OFF mode; the runs, counts and the counter in the ranges of section 1.3 and R23;
the counter above 0 in HOLD and REACQUIRE; a valid P within the widest limits. -/
abbrev TrackingLegal (l : Lane) : Prop :=
  (l.tracking = .off ↔ l.settings.on = false) ∧ l.confirmCount ≤ 8 ∧ l.octaveLength ≤ 15 ∧ l.counter ≤ 255 ∧
  l.resultCount ≤ 65535 ∧ l.correctionCount ≤ 65535 ∧
  (l.tracking = .hold ∨ l.tracking = .reacquire → 1 ≤ l.counter) ∧
  (pitchValid l.tracking = true → 2251 ≤ l.p ∧ l.p ≤ 7823)

/-- The lanes' tracking law. -/
abbrev TrackingLaw (s : State) : Prop := ∀ k : LaneId, TrackingLegal s.lanes[k]

/-- The armed cue's law (R126, R131): an IDLE record has no remaining frames, an ARMED one has a match set, and with a timeout
it never stands at 0. -/
abbrev CueLaw (s : State) : Prop :=
  s.cue.timeout ≤ 4095 ∧ s.cue.remaining ≤ s.cue.timeout ∧ (s.cue.armed = false → s.cue.remaining = 0) ∧
  (s.cue.armed = true → s.cue.matchSet ≠ 0) ∧ (s.cue.armed = true → 0 < s.cue.timeout → 0 < s.cue.remaining)

/-- A good message's note is a note (R140). -/
def messageLegal : CueMessage → Bool
  | .keyDown note => note < 120
  | .keyUp note => note < 120
  | .keysClear => true
  | .latch _ => true
  | .sceneCue _ => true
  | .setlistStep _ => true
  | .cueFire => true

/-- A partial message: nothing, or a start byte and up to two data bytes (R139). -/
def partialLegal : List Byte → Bool
  | [] => true
  | start :: rest => start.msb && rest.length ≤ 2 && rest.all fun b => !b.msb

/-- A byte in progress has at most its eight data bits (R137). -/
def lineLegal : Line → Bool
  | .waitHigh => true
  | .idle => true
  | .receiving bits => bits.length ≤ 8

/-- The cue link's law (R137, R138, R139, R141, R142, R144, R145). CUE_HOLD is released while a hard reset lasts (R172). -/
abbrev LinkLaw (s : State) : Prop :=
  s.link.fifo.length ≤ 16 ∧ (∀ m ∈ s.link.fifo, messageLegal m = true) ∧ partialLegal s.link.partialBytes = true ∧
  lineLegal s.link.line = true ∧ (s.link.line = .waitHigh → s.link.partialBytes = []) ∧
  (s.link.headWaits = true → s.link.fifo ≠ []) ∧
  (s.inReset = false → (12 ≤ s.link.fifo.length → s.link.hold = true) ∧ (s.link.fifo.length ≤ 8 → s.link.hold = false)) ∧
  s.link.faults.stray ≤ 255 ∧ s.link.faults.framing ≤ 255 ∧ s.link.faults.check ≤ 255 ∧
  s.link.faults.content ≤ 255 ∧ s.link.faults.overrun ≤ 255

/-- The chord set's law (R146). -/
abbrev ChordLaw (s : State) : Prop :=
  s.chord.entries.length ≤ 8 ∧ (s.chord.entries.map ChordEntry.note).Nodup ∧ (∀ e ∈ s.chord.entries, e.note < 120) ∧
  (s.chord.latch = false → ∀ e ∈ s.chord.entries, e.down = true)

/-- The supervisor's law (R167, R168, R169). -/
abbrev ClockLaw (s : State) : Prop :=
  s.clock.period ≤ 255 ∧ s.clock.gap ≤ 1024 ∧ s.clock.frame ≤ 65535 ∧
  (s.clock.state ≠ .present → s.clock.period = 0) ∧ (s.clock.state = .lost → s.clock.settle = 0) ∧
  (s.clock.state = .settling → 1 ≤ s.clock.settle ∧ s.clock.settle ≤ 511) ∧
  (s.clock.state = .present → s.clock.settle = 512)

/-- A ratio the shifter can be given (R156). -/
abbrev RatioLegal (r : Nat) : Prop := 16384 ≤ r ∧ r ≤ 262144

/-- One render channel's law (R156, R159). -/
abbrev ChannelLegal (c : Channel) : Prop :=
  (c.startGain ≤ 4096 ∧ c.endGain ≤ 4096 ∧ c.nextGain ≤ 4096) ∧
  (RatioLegal c.startRatio ∧ RatioLegal c.endRatio ∧ RatioLegal c.nextRatio) ∧
  (c.startPan ≤ 127 ∧ c.endPan ≤ 127 ∧ c.nextPan ≤ 127) ∧ c.position ≤ 256 ∧
  (c.state = .silent → c.endGain = 0 ∧ channelGain c = 0 ∧ c.phase = 0 ∧ c.y = 0) ∧
  (c.state = .cutting → c.endGain = 0 ∧ c.position < 256)

/-- A mixer ramp's law (R161). -/
abbrev RampLegal (r : Ramp) : Prop := r.start ≤ 4096 ∧ r.target ≤ 4096 ∧ r.position ≤ 256

/-- The audio side's law (R155, R156, R157, R161): a slot with no voice, or with a PENDING one, has a next gain of 0. -/
abbrev RenderLaw (s : State) : Prop :=
  (∀ i : Slot, ChannelLegal s.channels[i]) ∧
  (∀ i : Slot, s.voices[i].state = .free ∨ s.voices[i].state = .pending → s.channels[i].nextGain = 0) ∧
  (∀ k : LaneId, RampLegal s.mixers[k].dry ∧ RampLegal s.mixers[k].bypass) ∧
  (∀ k : LaneId, s.audio.delay[k].length = 256)

/-- The port's law (R173): a reset act has been made and its result not written only while the port executes a RESTART. -/
abbrev PortLaw (s : State) : Prop :=
  s.port.resetActMade = true →
    s.port.executing.any (fun c => c.code == 0x05 && c.frame.declared == 0) = true ∧ s.port.resultReady = false ∧
    s.port.result = .cleared

/-! ### Word-clock periods (R155, R156, R162, R164) -/

/-- What one word-clock period, in a clock state, makes of the audio side of `s`: a PLAYING channel makes a sample while PRESENT,
a CUTTING one also while SETTLING, from the delayed input of its lane and at the position's ratio, and is SILENT after sample 256;
the mixers' ramps go on; each delay line drops its oldest sample and takes its slot's first 24 bits; unless the clock is PRESENT
the outputs are 0. -/
def PeriodPasses (clock : ClockState) (s : State) (cs : Vector Channel 16) (ms : Vector Mixer 4) (au : Audio) : Prop :=
  (∀ i : Slot,
    let c := s.channels[i]
    let position := min 256 (c.position + 1)
    let ratio := rampAt c.startRatio c.endRatio position
    let x := s.audio.delay[c.lane].headD 0
    let made := { c with position := position, y := Config.shifterOutput c.phase ratio x,
                         phase := Config.shifterPhase c.phase ratio x }
    (c.state = .silent → cs[i] = c) ∧
    (c.state = .playing → cs[i] = if clock = .present then made else c) ∧
    (c.state = .cutting → cs[i] = if position = 256 then { made with state := .silent, phase := 0, y := 0 } else made)) ∧
  (∀ k : LaneId, ms[k] =
    { dry := { s.mixers[k].dry with position := min 256 (s.mixers[k].dry.position + 1) }
      bypass := { s.mixers[k].bypass with position := min 256 (s.mixers[k].bypass.position + 1) } }) ∧
  (∀ k : LaneId, au.delay[k] =
    s.audio.delay[k].drop 1 ++ [(Config.tdmInput s.sampleNo (k.castLE (by omega))).extractLsb' 8 24]) ∧
  (clock ≠ .present → au.out = Vector.replicate 8 0)

/-- What `n` word-clock periods, with no boundary among them, make of the audio side of `s`, said at once. What the shifter keeps
and gives is what `n` times `PeriodPasses` makes of it. -/
def PeriodsPass (clock : ClockState) (n : Nat) (s : State) (cs : Vector Channel 16) (ms : Vector Mixer 4) (au : Audio) : Prop :=
  (∀ i : Slot,
    let c := s.channels[i]
    (c.state = .silent ∨ (c.state = .playing ∧ clock ≠ .present) → cs[i] = c) ∧
    (c.state = .playing → clock = .present → c.position ≤ 256 →
      ∃ phase y, cs[i] = { c with position := min 256 (c.position + n), phase := phase, y := y }) ∧
    (c.state = .cutting → c.position + n < 256 →
      ∃ phase y, cs[i] = { c with position := c.position + n, phase := phase, y := y }) ∧
    (c.state = .cutting → c.position < 256 → 256 ≤ c.position + n →
      cs[i] = { c with state := .silent, position := 256, phase := 0, y := 0 })) ∧
  (∀ k : LaneId, s.mixers[k].dry.position ≤ 256 → s.mixers[k].bypass.position ≤ 256 → ms[k] =
    { dry := { s.mixers[k].dry with position := min 256 (s.mixers[k].dry.position + n) }
      bypass := { s.mixers[k].bypass with position := min 256 (s.mixers[k].bypass.position + n) } }) ∧
  (∀ k : LaneId, n ≤ s.audio.delay[k].length → au.delay[k] = s.audio.delay[k].drop n ++
    (List.range n).map fun j => (Config.tdmInput (s.sampleNo + j) (k.castLE (by omega))).extractLsb' 8 24) ∧
  (clock ≠ .present → 0 < n → au.out = Vector.replicate 8 0)

/-- Slots 2k and 2k + 1 carry lane k's mix of its delayed input `x k` and of the channels of lane k whose gain is above 0, in their
first 24 bits, and 0 in the last 8 (R155, R160, R162). -/
def SlotsCarryMixes (cs : Vector Channel 16) (ms : Vector Mixer 4) (x : LaneId → Sample) (out : Vector TdmSlot 8) : Prop :=
  ∀ k : LaneId,
    let heard := (List.finRange 16).filter fun i : Slot => cs[i].lane = k ∧ 0 < channelGain cs[i]
    let side := fun w : Channel → Nat => mixSide (rampValue ms[k].bypass) (rampValue ms[k].dry) (x k).toInt
      (heard.map fun i => (cs[i].y.toInt, channelGain cs[i], w cs[i]))
    out[(⟨2 * k.val, by omega⟩ : Fin 8)] = side (fun c => 127 - channelPan c) ++ (0 : BitVec 8) ∧
    out[(⟨2 * k.val + 1, by omega⟩ : Fin 8)] = side channelPan ++ (0 : BitVec 8)

/-! ### Bytes on the cue link's line (R137) -/

/-- The data bits of a byte in the order of the line, the least significant first. -/
def lineBits (b : Byte) : List Bool :=
  [b.getLsbD 0, b.getLsbD 1, b.getLsbD 2, b.getLsbD 3, b.getLsbD 4, b.getLsbD 5, b.getLsbD 6, b.getLsbD 7]

/-- The samples complete the byte `b` with the stop bit `stop`: on an idle line, noise (start-bit samples that read high), a low
start bit, the data bits and the stop bit; or, with a byte in progress, the data bits still missing and the stop bit. -/
def Delivers (line : Line) (samples : List Bool) (b : Byte) (stop : Bool) : Prop :=
  (line = .idle ∧ ∃ noise, samples = List.replicate noise true ++ false :: (lineBits b ++ [stop])) ∨
  (∃ got rest, line = .receiving got ∧ lineBits b = got ++ rest ∧ samples = rest ++ [stop])

/-! ### A port command that is taken (R185, R186, assumption 13) -/

/-- A step's row for the command `c` comes to the taking of `c`: the part is not held in reset, and the port is executing
`c`, or executes nothing and the row's frame has the declared length. -/
abbrev Takes (s : State) (c : Command) : Prop :=
  s.inReset = false ∧
    (s.port.executing = some c ∨ (s.port.executing = none ∧ c.frame.data.length = c.frame.declared.toNat))

/-- SDO during the SEND frame of a command: 00h in the transaction byte and in every byte after it (R183). -/
def sendSdo (c : Command) : List Byte := List.replicate (1 + c.bytes.length) 0

/-- The state in which the command `c` is taken: the port as it stands when it executes `c` already, or after the SEND frame
that brings `c` is accepted (R185). -/
def atTaking (s : State) (c : Command) : State :=
  if s.port.executing = some c then s
  else { s with port := { s.port with executing := some c, resultReady := false, sdo := sendSdo c } }

/-- The port after the completion of the command it executes with DONE and these result bytes (R186). -/
def Port.afterDone (p : Port) (bytes : List Byte) : Port :=
  { p with executing := none, resultReady := true, result := { completion := .done, bytes := bytes } }

/-- The port after the refusal of the command it executes (R186, R188): the refusal record is kind, code, command code and
detail, and the result is REFUSED with those four bytes. -/
def Port.afterRefusal (p : Port) (kind code command detail : Byte) : Port :=
  { p with executing := none, resultReady := true,
           refusal := { kind := kind, code := code, command := command, detail := detail },
           result := { completion := .refused, bytes := [kind, code, command, detail] } }

/-- The state `t` with the command that the port executes completed with DONE and these result bytes. -/
def doneState (t : State) (bytes : List Byte) : State := { t with port := t.port.afterDone bytes }

/-- The state `t` with the command that the port executes refused: refusal kind, refusal code, command code, detail. -/
def refusedState (t : State) (kind code command detail : Byte) : State :=
  { t with port := t.port.afterRefusal kind code command detail }

/-- Two bytes, most significant byte first, two's complement (R191). -/
def be16 (z : Int) : List Byte := [(BitVec.ofInt 16 z).extractLsb' 8 8, (BitVec.ofInt 16 z).extractLsb' 0 8]

/-- A CONTROL entry finds a place in the change queue (R91). -/
abbrev Room (s : State) : Prop := s.queue.length ≤ (if s.cue.armed = true then 14 else 15)

/-- Data byte `i` of a frame. -/
abbrev dat (f : CommandFrame) (i : Nat) : Byte := f.data.getD i 0

end Sys2Proof.Machine
end

