-- ==== Sys2Proof/WellFormed.lean ====
section
/-! DEFINITION. Which commands and events can reach the part at all. `exec` is total; on an ill-formed command it does
what Machine/Ops.lean says of an event whose occasion is absent. -/

namespace Sys2Proof

/-- A frame that a SEND could deliver: the data phase has the declared length (R185). -/
def CommandFrame.wellFormed (f : CommandFrame) : Bool := f.data.length == f.declared.toNat

/-- The three transaction bytes of R183. -/
def isTransactionByte (b : Byte) : Bool := b == 0x11 || b == 0x22 || b == 0x33

/-- Well-formedness of a command or event: what its row of the table presupposes about its own operands. -/
def Instr.wellFormed : Instr → Bool
  | .poll _ _ => true
  | .send _ _ _ => true
  | .fetch _ _ => true
  | .malformedFrame first _ _ => !(first.any isTransactionByte)
  | .unknownCommand code f => (requiredLength code).isNone && f.wellFormed
  | .readStatus f => f.wellFormed
  | .readRefusal f => f.wellFormed
  | .fetchNotice f => f.wellFormed
  | .setNotices f => f.wellFormed
  | .restart r => r.frame.wellFormed
  | .setLaneCharacteristics f => f.wellFormed
  | .readLane f => f.wellFormed
  | .readLastCorrection f => f.wellFormed
  | .laneSettings f => f.wellFormed
  | .createVoice f => f.wellFormed
  | .modifyVoice f => f.wellFormed
  | .retireVoice f => f.wellFormed
  | .retireLane f => f.wellFormed
  | .readVoice f => f.wellFormed
  | .findVoice f => f.wellFormed
  | .listVoices f => f.wellFormed
  | .testSettled f => f.wellFormed
  | .setKeyMap f => f.wellFormed
  | .readKeyMap f => f.wellFormed
  | .loadScene f => f.wellFormed
  | .readScene f => f.wellFormed
  | .clearScene f => f.wellFormed
  | .takeScene f => f.wellFormed
  | .loadSetlist f => f.wellFormed
  | .readSetlist f => f.wellFormed
  | .advanceSetlist f => f.wellFormed
  | .armCue f => f.wellFormed
  | .disarmCue f => f.wellFormed
  | .fireCue f => f.wellFormed
  | .readChordSet f => f.wellFormed
  | .clearChordSet f => f.wellFormed
  | .setCueLink f => f.wellFormed
  | .setPedals f => f.wellFormed
  | .readPedals f => f.wellFormed
  | .laneResult _ _ => true
  | .holdExpiry _ _ => true
  | .laneLost _ _ => true
  | .frameBoundary => true
  | .cueExpired => true
  | .cutFadeEnd _ => true
  | .clockLost => true
  | .settlingStart => true
  | .settlingAbort => true
  | .clockBack => true
  | .powerOn _ => true
  | .resetPin _ => true
  | .framing => true
  | .stray samples => !samples.isEmpty
  | .cueLinkMessage samples => !samples.isEmpty
  | .keyDown => true
  | .keyUp => true
  | .keysClear => true
  | .latch => true
  | .sceneCue => true
  | .setlistStep => true
  | .cueFire => true
  | .pedal _ samples => !samples.isEmpty
  | .partialMessage samples => !samples.isEmpty
  | .lineHighBitTime => true
  | .supplyBelowThreshold => true

end Sys2Proof
end

