-- ==== Sys2Proof/Certificates/Slice0/Obligations.lean ====
section
/-! DEFINITION. The statements for the provers. Each says what a command or event does to the whole state: where the conclusion
is an equation, whatever it does not name is unchanged. Rule numbers are those of spec/. `u` is the state in which a port
command is taken (`atTaking`): the state itself where the port executes the command already, or, the model's choice
(assumptions 12 and 13), the state after the SEND frame that brought it. -/

open Sys2Proof Sys2Proof.Machine

/-! ### The step -/

/-- A step takes the command at the front of the queue and executes it with the queue's rest. -/
def Obligations.StepRunsFrontCommand : Prop :=
  ∀ (s : State) (c : Instr) (rest : List Instr), s.pending = c :: rest → step s = exec c { s with pending := rest }

/-- MODEL'S CHOICE (assumption 14): with no command waiting, one word-clock edge goes by, unless the next edge is one that a
row of the table names, the clock is LOST or the part is held in reset. What R156, R161, R164, R167 and R169 give such an edge: it
is counted, it restarts the gap timer, of which the model keeps only 0 and 64 µs (assumption 20), and every channel, mixer ramp
and delay line goes on by a sample; what a PRESENT part puts out is stated in `OutputSlotsCarryLaneMixes`. That a PLAYING channel
stands still while SETTLING is the model's reading (assumption 24), and the shifter is a free value (assumption 2). `runEdges n`
is `n` such edges, whose channels, mixers and delay lines are said at once. -/
def Obligations.IdleStepIsOneWordClockEdge : Prop :=
  ∀ s : State, s.pending = [] → ClockLaw s →
    let present := s.inReset = false ∧ s.clock.state = .present
    let settling := s.inReset = false ∧ s.clock.state = .settling
    let next : State → State := fun t => match step t with | .next u => u | .fault _ => t | .refused _ => t
    (s.inReset = true ∨ s.clock.state = .lost ∨ (s.clock.state = .present ∧ s.clock.period = 255) ∨
        (s.clock.state = .settling ∧ s.clock.settle = 511) →
      step s = .next s) ∧
    (present → s.clock.period < 255 →
      ∃ cs ms au, PeriodPasses .present s cs ms au ∧ step s = .next
        { s with channels := cs, mixers := ms, audio := au, sampleNo := s.sampleNo + 1,
                 clock := { s.clock with period := s.clock.period + 1, gap := 0 } }) ∧
    (settling → s.clock.settle < 511 →
      ∃ cs ms au, PeriodPasses .settling s cs ms au ∧ step s = .next
        { s with channels := cs, mixers := ms, audio := au, sampleNo := s.sampleNo + 1,
                 clock := { s.clock with settle := s.clock.settle + 1, gap := 0 } }) ∧
    (∀ n : Nat, (present ∧ s.clock.period + n ≤ 255) ∨ (settling ∧ s.clock.settle + n ≤ 511) →
      let w := s.runEdges n
      next^[n] s = w ∧ PeriodsPass s.clock.state n s w.channels w.mixers w.audio ∧ w.sampleNo = s.sampleNo + n)

/-! ### The control port's frames -/

/-- POLL (R183, R184, R190): SDO carries 00h, then the status byte as it stood, then 00h; OVERRUN and FRAMING are cleared. A
reset act that falls into the frame after its transaction byte leaves SDO's bits up to the act, and 00h for the rest; one that
falls earlier discards the frame. That such a frame's first byte carries 00h too, and that the row says by an operand after how
many SCLK edges the act fell, is the model's choice (assumption 15). A part held in reset does nothing. -/
def Obligations.PollReturnsStatusAndClearsFaults : Prop :=
  ∀ (s : State) (clocked : Nat),
    (s.inReset = false → ∃ b : Byte,
      let sent : List Byte := (0 :: b :: List.replicate clocked 0).take (clocked + 1)
      let polled : List Byte → State := fun sdo => { s with port := { s.port with overrun := false, framing := false, sdo := sdo } }
      (b.getLsbD 7 = s.port.executing.isNone ∧ b.getLsbD 6 = s.port.executing.isSome ∧
        b.getLsbD 5 = s.port.resultReady ∧ b.getLsbD 4 = false ∧ b.getLsbD 3 = false ∧ b.getLsbD 2 = false ∧
        b.getLsbD 1 = s.port.overrun ∧ b.getLsbD 0 = s.port.framing) ∧
      exec (.poll clocked none) s = .next (polled sent) ∧
      (∀ edges, 8 ≤ edges → ∃ sdo : List Byte, exec (.poll clocked (some edges)) s = .next (polled sdo) ∧
        sdo.length = clocked + 1 ∧ ∀ (i : Nat) (j : Fin 8),
          (sdo.getD i 0).getMsbD j.val = (decide (8 * i + j.val < edges) && (sent.getD i 0).getMsbD j.val))) ∧
    (s.inReset = false → ∀ edges < 8, exec (.poll clocked (some edges)) s = .next
      { s with port := { s.port with sdo := List.replicate (clocked + 1) 0 } }) ∧
    (s.inReset = true → ∀ a, exec (.poll clocked a) s = .next s)

/-- SEND (R185, R190): judged in the order of R185. That SDO carries 00h throughout is the model's reading (assumption 12), and the operand
that tells a frame with a reset act in it is its choice (assumption 15). -/
def Obligations.SendIsJudged : Prop :=
  ∀ (s : State) (bytes : List Byte) (part : Bool),
    (s.inReset = false → s.port.executing.isSome = true → exec (.send bytes part none) s = .next
      { s with port := { s.port with overrun := true, sdo := List.replicate (bytes.length + 1) 0 } }) ∧
    (s.inReset = false → s.port.executing = none → part = false →
      ∀ c : Command, c.frame.data.length = c.frame.declared.toNat → bytes = c.bytes →
        exec (.send bytes part none) s = .next
          { s with port := { s.port with executing := some c, resultReady := false,
                                         sdo := List.replicate (bytes.length + 1) 0 } }) ∧
    (s.inReset = false → s.port.executing = none →
      (part = true ∨ ∀ d, bytes[1]? = some d → bytes.length ≠ 8 + d.toNat) →
        exec (.send bytes part none) s = .next
          { s with port := { s.port with framing := true, sdo := List.replicate (bytes.length + 1) 0 } }) ∧
    (s.inReset = false → ∀ edges, exec (.send bytes part (some edges)) s = .next
      { s with port := { s.port with sdo := List.replicate (bytes.length + 1) 0 } }) ∧
    (s.inReset = true → ∀ a, exec (.send bytes part a) s = .next s)

/-- FETCH (R183, R187): SDO carries 00h, then the completion byte, the length and the result bytes, then 00h; the result
stays. MALFORMED_FRAME (R183): an unknown transaction byte or none sets FRAMING and does nothing else. A reset act that falls into
a FETCH after its transaction byte leaves SDO's bits up to the act, and 00h for the rest; one that falls into any of these frames
earlier discards it, and no flag is set (R190; the operand that says so, and that an unknown transaction byte sets FRAMING when it
has been received, are the model's choice, assumption 15). -/
def Obligations.FetchReturnsResultAndMalformedSetsFraming : Prop :=
  ∀ (s : State) (clocked : Nat), s.inReset = false →
    let quiet : List Byte → State := fun sdo => { s with port := { s.port with sdo := sdo } }
    let zeros : List Byte := List.replicate (clocked + 1) 0
    (∃ c : Byte,
      let sent : List Byte := (0 :: c :: BitVec.ofNat 8 s.port.result.bytes.length ::
        (s.port.result.bytes ++ List.replicate clocked 0)).take (clocked + 1)
      c = (match s.port.result.completion with | .none => 0x00 | .done => 0x01 | .refused => 0x02) ∧
      exec (.fetch clocked none) s = .next (quiet sent) ∧
      (∀ edges, 8 ≤ edges → ∃ sdo : List Byte, exec (.fetch clocked (some edges)) s = .next (quiet sdo) ∧
        sdo.length = clocked + 1 ∧ ∀ (i : Nat) (j : Fin 8),
          (sdo.getD i 0).getMsbD j.val = (decide (8 * i + j.val < edges) && (sent.getD i 0).getMsbD j.val))) ∧
    (∀ edges < 8, exec (.fetch clocked (some edges)) s = .next (quiet zeros)) ∧
    (∀ b : Byte, b ≠ 0x11 → b ≠ 0x22 → b ≠ 0x33 →
      exec (.malformedFrame (some b) clocked none) s = .next
        { s with port := { s.port with framing := true, sdo := zeros } } ∧
      (∀ edges, exec (.malformedFrame (some b) clocked (some edges)) s = .next (if 8 ≤ edges then
        { s with port := { s.port with framing := true, sdo := zeros } } else quiet zeros))) ∧
    exec (.malformedFrame none clocked none) s = .next { s with port := { s.port with framing := true, sdo := [] } } ∧
    (∀ edges, exec (.malformedFrame none clocked (some edges)) s = .next (quiet []))

/-! ### Port commands in general -/

/-- Codes and rows (R191): every port-command row's block names that row, and its SEND frame delivers exactly that block. A RESTART
row that makes the reset act alone (assumption 22) has the block of the RESTART row. -/
def Obligations.CommandBlocksRoundTrip : Prop :=
  ∀ (i : Instr) (c : Command), i.wellFormed = true → i.toCommand? = some c →
    (c.toInstr = i ∨ ∃ f, i = .restart ⟨f, true⟩ ∧ c.toInstr = .restart ⟨f, false⟩) ∧ Command.ofBytes c.bytes = some c ∧
    ∀ d : Command, d.frame.data.length = d.frame.declared.toNat → d.bytes = c.bytes → d = c

/-- MODEL'S CHOICE (assumption 13): a port command's row, at a port that executes nothing, does what the SEND frame of its
command does followed by the row at the port that executes the command; and at a port that executes another command it is the
SEND frame that R185 discards with OVERRUN. -/
def Obligations.PortCommandRowIsSendThenTaking : Prop :=
  ∀ (s : State) (i : Instr) (c : Command), i.wellFormed = true → i.toCommand? = some c → s.inReset = false →
    (s.port.executing = none →
      ∃ t, exec (.send c.bytes false none) s = .next t ∧ t.port.executing = some c ∧ exec i s = exec i t) ∧
    (∀ d, s.port.executing = some d → d ≠ c →
      exec i s = .next { s with port := { s.port with overrun := true, sdo := sendSdo c } })

/-- The first two checks of R186: a code that names no command is refused UNKNOWN_COMMAND with detail 0, and a declared length
other than the command summary's is refused BAD_LENGTH with that length; nothing else changes but the port. -/
def Obligations.UnknownCommandAndBadLengthRefused : Prop :=
  (∀ (s : State) (code : Byte) (f : CommandFrame), requiredLength code = none → Takes s ⟨code, f⟩ →
    exec (.unknownCommand code f) s = .next (refusedState (atTaking s ⟨code, f⟩) 1 1 code 0)) ∧
  (∀ (s : State) (i : Instr) (c : Command) (n : Nat), i.wellFormed = true → i.toCommand? = some c → Takes s c →
    requiredLength c.code = some n → c.frame.declared.toNat ≠ n →
    exec i s = .next (refusedState (atTaking s c) 1 2 c.code c.frame.declared))

/-! ### Status, notices, restart -/

/-- READ STATUS (R189): the fourteen bytes; nothing but the port changes. READ REFUSAL (R188): the record's four bytes, and
the record is reset to NONE. -/
def Obligations.StatusAndRefusalReads : Prop :=
  (∀ (s : State) (f : CommandFrame), Takes s ⟨0x01, f⟩ → f.declared = 0 →
    let u := atTaking s ⟨0x01, f⟩
    ∃ bits : BitVec 24,
      (∀ k : Fin 24, bits.getLsbD k.val = if h : k.val < 17 then s.notices[k.val].pending else false) ∧
      exec (.readStatus f) s = .next (doneState u
        (([(match s.clock.state with | .present => 0 | .lost => 1 | .settling => 2),
           (match s.clock.cause with | .powerOn => 1 | .resetPin => 2 | .restartCommand => 3)] : List Byte) ++
         be16 s.clock.frame ++ [BitVec.ofNat 8 s.queue.length, if s.cue.armed then 1 else 0] ++
         be16 s.cue.remaining ++
         [BitVec.ofNat 8 ((List.finRange 16).countP fun i => s.voices[i].state = .free),
          (match s.currentScene with | some n => BitVec.ofNat 8 n.val | none => 0xFF),
          BitVec.ofNat 8 s.setlist.position,
          bits.extractLsb' 16 8, bits.extractLsb' 8 8, bits.extractLsb' 0 8]))) ∧
  (∀ (s : State) (f : CommandFrame), Takes s ⟨0x02, f⟩ → f.declared = 0 →
    let u := atTaking s ⟨0x02, f⟩
    let r := s.port.refusal
    exec (.readRefusal f) s = .next (doneState
      { u with port := { u.port with refusal := { kind := 0, code := 0, command := 0, detail := 0 } } }
      [r.kind, r.code, r.command, r.detail]))

/-- FETCH NOTICE (R177): the lowest-numbered pending and enabled kind, URGENT before ROUTINE, is returned and cleared; with
none, kind NONE, and only the port changes. SET NOTICES (R178): bit k of the two three-byte sets is kind k's enable flag and
group; pending flags, counts and subjects stay. ATTN_N (R172, R176): low exactly while some kind is both pending and enabled,
released while a hard reset lasts. -/
def Obligations.NoticesFetchedSetAndSignalled : Prop :=
  (∀ (s : State) (f : CommandFrame), Takes s ⟨0x03, f⟩ → f.declared = 0 →
    let u := atTaking s ⟨0x03, f⟩
    let waits := fun k : Fin 17 => s.notices[k].pending = true ∧ s.notices[k].enabled = true
    (∀ k : Fin 17, waits k →
      (∀ j : Fin 17, waits j → (s.notices[j].urgent = true → s.notices[k].urgent = true) ∧
        (s.notices[j].urgent = s.notices[k].urgent → k ≤ j)) →
      exec (.fetchNotice f) s = .next (doneState
        { u with notices := s.notices.set k { s.notices[k] with pending := false, count := 0, subject := 0 } }
        [BitVec.ofNat 8 k.val, BitVec.ofNat 8 s.notices[k].count, BitVec.ofNat 8 s.notices[k].subject])) ∧
    ((∀ k : Fin 17, ¬waits k) → exec (.fetchNotice f) s = .next (doneState u [0xFF, 0, 0]))) ∧
  (∀ (s : State) (f : CommandFrame), Takes s ⟨0x04, f⟩ → f.declared = 0 →
    let u := atTaking s ⟨0x04, f⟩
    ∃ ns : Vector Notice 17,
      exec (.setNotices f) s = .next (doneState { u with notices := ns } []) ∧
      ∀ k : Fin 17, ns[k] = { s.notices[k] with
        enabled := (f.operands[0] ++ f.operands[1] ++ f.operands[2] : BitVec 24).getLsbD k.val
        urgent := (f.operands[3] ++ f.operands[4] ++ f.operands[5] : BitVec 24).getLsbD k.val }) ∧
  (∀ s : State, s.attention = true ↔
    s.inReset = false ∧ ∃ k : Fin 17, s.notices[k].pending = true ∧ s.notices[k].enabled = true)

/-- RESTART (R166, R173, R174, and each block's own soft-reset rule): what was prepared for the show is kept, what was sounding or
in flight is set to its reset value, and then the RESTART's own result is written. Between the two the port goes on executing,
and its current result is NONE. That one row makes both, or by its operand the act alone, is the model's choice (assumption 22).
That the next gain of a SILENT channel becomes 0, that a freed slot's owner stands at CONTROL, that the bypass ramp starts from
the present value, and that an invalid P, N_cur and D stand at 0 are the model's readings (assumptions 8, 11, 7 and 28). -/
def Obligations.RestartIsSoftReset : Prop :=
  ∀ (s : State) (f : CommandFrame), Takes s ⟨0x05, f⟩ → f.declared = 0 →
    let u := atTaking s ⟨0x05, f⟩
    (s.port.resetActMade = false →
      ∃ (ls : Vector Lane 4) (vs : Vector Voice 16) (cs : Vector Channel 16) (ms : Vector Mixer 4) (ns : Vector Notice 17)
        (ps : Vector Pedal 4),
        let act : State :=
          { u with
            lanes := ls, voices := vs, ageList := [], releaseList := [], queue := [], currentScene := none
            setlist := { s.setlist with position := 0 }
            cue := { s.cue with armed := false, remaining := 0 }
            link := { line := .waitHigh, partialBytes := [], fifo := [], headWaits := false, hold := false,
                      faults := { stray := 0, framing := 0, check := 0, content := 0, overrun := 0 } }
            chord := { entries := [], latch := s.chord.latch }
            channels := cs, mixers := ms, notices := ns, pedals := ps
            clock := { s.clock with frame := 0, cause := .restartCommand }
            port := { u.port with resultReady := false, result := { completion := .none, bytes := [] },
                                  refusal := { kind := 0, code := 0, command := 0, detail := 0 } } }
        let between : State := { act with port := { act.port with resetActMade := true } }
        exec (.restart ⟨f, false⟩) s = .next (doneState act [3]) ∧
        exec (.restart ⟨f, true⟩) s = .next between ∧ exec (.restart ⟨f, false⟩) between = .next (doneState act [3]) ∧
        (∀ k : LaneId, ls[k] =
          { settings := { on := s.lanes[k].settings.on, bypass := false, freeze := false, dry := s.lanes[k].settings.dry }
            tracking := if s.lanes[k].settings.on then .search else .off
            p := 0, n := 0, d := 0, candidate := none, confirmCount := 0, octaveLength := 0, octaveDirection := .up
            counter := 0, resultCount := 0, lastConfidence := 0, lastClass := .none
            correction := { raw := 0, corrected := 0, direction := .up, resultNumber := 0, valid := false }
            correctionCount := 0, chars := s.lanes[k].chars, due := s.lanes[k].due }) ∧
        (∀ i : Slot, vs[i] =
          { template := { tag := 0, lane := 0, rule := .scale, operand := 0, fallback := 0, follow := 0, detune := 0, lo := 0
                          hi := 0, glide := 0, level := 0, pan := 0, group := .foreground, attack := 0, release := 0 }
            state := .free, generation := s.voices[i].generation, owner := .control, fresh := false, frozen := none, nt := 0
            t := 0, o := 0, delta := 0, ratio := 65536, clamped := false, fallbackUsed := false, levelTarget := 0
            level := 0 }) ∧
        (∀ k : Fin 17, ns[k] = { s.notices[k] with pending := k.val = 0, count := if k.val = 0 then 1 else 0,
                                                    subject := if k.val = 0 then 3 else 0 }) ∧
        (∀ p : PedalId, ps[p] = { s.pedals[p] with differing := false }) ∧
        (∀ i : Slot, let c := s.channels[i]
          (c.state ≠ .silent → cs[i] =
            { c with state := .cutting, startGain := channelGain c, endGain := 0
                     startRatio := channelRatio c, endRatio := channelRatio c
                     startPan := channelPan c, endPan := channelPan c, nextGain := 0, position := 0 }) ∧
          (c.state = .silent → cs[i] = { c with nextGain := 0 })) ∧
        (∀ k : LaneId, let m := s.mixers[k]
          ms[k] = { m with bypass := if rampValue m.bypass = 0 ∧ m.bypass.target = 0 then m.bypass
                                     else { start := rampValue m.bypass, target := 0, position := 0 } })) ∧
    (s.port.resetActMade = true →
      exec (.restart ⟨f, true⟩) s = .next u ∧
      exec (.restart ⟨f, false⟩) s = .next (doneState { u with port := { u.port with resetActMade := false } } [3]))

/-! ### Lane commands -/

/-- SET LANE CHARACTERISTICS (R21): clamps and substitutions, then the three checks, then all nine at once. -/
def Obligations.SetLaneCharacteristicsReplacesAllNine : Prop :=
  ∀ (s : State) (f : CommandFrame), Takes s ⟨0x10, f⟩ → f.declared = 12 →
    let u := atTaking s ⟨0x10, f⟩
    let low := max 2251 (min 7823 (dat f 0 ++ dat f 1 : BitVec 16).toInt)
    let high := max 2251 (min 7823 (dat f 2 ++ dat f 3 : BitVec 16).toInt)
    (4 ≤ f.operands[0].toNat →
      exec (.setLaneCharacteristics f) s = .next (refusedState u 1 4 0x10 f.operands[0])) ∧
    (∀ k : LaneId, f.operands[0].toNat = k.val →
      exec (.setLaneCharacteristics f) s = .next
        (if high ≤ low then refusedState u 1 3 0x10 1
        else if 8 < max 1 (dat f 6).toNat then refusedState u 1 3 0x10 4
        else if 15 < max 1 (dat f 8).toNat then refusedState u 1 3 0x10 6
        else doneState
          { u with lanes := s.lanes.set k { s.lanes[k] with
              chars := { lowLimit := low, highLimit := high, threshold := (dat f 4).toNat
                         hysteresis := min 45 (dat f 5).toNat, confirmFrames := max 1 (dat f 6).toNat
                         octaveWindow := min 100 (dat f 7).toNat, octavePersist := max 1 (dat f 8).toNat
                         holdFrames := (dat f 9).toNat, reacquireFrames := max 1 (dat f 10).toNat } } } []))

/-- READ LANE (R23): the 32-byte image, and nothing but the port changes. READ LAST CORRECTION (R18): the nine bytes and the
valid flag cleared, or NO_CORRECTION. -/
def Obligations.LaneReads : Prop :=
  (∀ (s : State) (f : CommandFrame), Takes s ⟨0x11, f⟩ → f.declared = 0 →
    let u := atTaking s ⟨0x11, f⟩
    (4 ≤ f.operands[0].toNat → exec (.readLane f) s = .next (refusedState u 1 4 0x11 f.operands[0])) ∧
    (∀ k : LaneId, f.operands[0].toNat = k.val →
      let l := s.lanes[k]
      let c := l.chars
      let v : Bool := l.tracking = .locked ∨ l.tracking = .hold ∨ l.tracking = .reacquire
      exec (.readLane f) s = .next (doneState u
        ([BitVec.ofBool l.settings.freeze ++ BitVec.ofBool l.settings.bypass ++ BitVec.ofBool l.settings.on |>.setWidth 8] ++
         be16 l.settings.dry ++
         ([match l.tracking with | .off => 0 | .search => 1 | .locked => 2 | .hold => 3 | .reacquire => 4,
           if v then 1 else 0] : List Byte) ++
         be16 (if v then l.p else 0) ++ [BitVec.ofInt 8 (if v then l.n else 0)] ++ be16 (if v then l.d else 0) ++
         [l.lastConfidence,
          (match l.lastClass with | .none => 0 | .voiced => 1 | .notVoiced => 2 | .lowConfidence => 3
                                  | .periodRange => 4 | .outOfLimits => 5),
          BitVec.ofNat 8 l.counter, (match l.candidate with | some n => BitVec.ofInt 8 n | none => 0xFF),
          BitVec.ofNat 8 l.confirmCount, BitVec.ofNat 8 l.octaveLength,
          (match l.octaveDirection with | .up => 0 | .down => 1)] ++
         be16 l.resultCount ++ be16 l.correctionCount ++ be16 c.lowLimit ++ be16 c.highLimit ++
         [BitVec.ofNat 8 c.threshold, BitVec.ofNat 8 c.hysteresis, BitVec.ofNat 8 c.confirmFrames,
          BitVec.ofNat 8 c.octaveWindow, BitVec.ofNat 8 c.octavePersist, BitVec.ofNat 8 c.holdFrames,
          BitVec.ofNat 8 c.reacquireFrames])))) ∧
  (∀ (s : State) (f : CommandFrame), Takes s ⟨0x12, f⟩ → f.declared = 0 →
    let u := atTaking s ⟨0x12, f⟩
    (4 ≤ f.operands[0].toNat → exec (.readLastCorrection f) s = .next (refusedState u 1 4 0x12 f.operands[0])) ∧
    (∀ k : LaneId, f.operands[0].toNat = k.val →
      let l := s.lanes[k]
      exec (.readLastCorrection f) s = .next
        (if l.correction.valid = true then doneState
          { u with lanes := s.lanes.set k { l with correction := { l.correction with valid := false } } }
          (be16 l.correction.raw ++ be16 l.correction.corrected ++
           [match l.correction.direction with | .up => 0 | .down => 1] ++
           be16 l.correction.resultNumber ++ be16 l.correctionCount)
        else refusedState u 2 8 0x12 f.operands[0])))

/-- LANE SETTINGS (R99): its checks in order, the dry level clamped, a LANE_SETTINGS entry staged, and the settings as stored
returned. -/
def Obligations.LaneSettingsStages : Prop :=
  ∀ (s : State) (f : CommandFrame), Takes s ⟨0x13, f⟩ → f.declared = 0 →
    let u := atTaking s ⟨0x13, f⟩
    let dry := min 4096 (f.operands[4] ++ f.operands[5] : BitVec 16).toNat
    (4 ≤ f.operands[0].toNat → exec (.laneSettings f) s = .next (refusedState u 1 4 0x13 f.operands[0])) ∧
    (∀ k : LaneId, f.operands[0].toNat = k.val →
      exec (.laneSettings f) s = .next
        (if 1 < f.operands[1].toNat then refusedState u 1 3 0x13 0
        else if 1 < f.operands[2].toNat then refusedState u 1 3 0x13 1
        else if 1 < f.operands[3].toNat then refusedState u 1 3 0x13 2
        else if ¬Room s then refusedState u 3 11 0x13 (BitVec.ofNat 8 s.queue.length)
        else doneState
          { u with queue := s.queue ++ [.laneSettings k
              { on := f.operands[1] = 1, bypass := f.operands[2] = 1, freeze := f.operands[3] = 1, dry := dry }] }
          ([f.operands[1], f.operands[2], f.operands[3]] ++ be16 dry)))

/-! ### Voice templates and voice commands -/

/-- A template is taken field by field (R44, R45): the first refusable field that fails decides, with its index; when none fails
the template is stored with every clamp and substitution made. -/
def Obligations.TemplateExaminedInFieldOrder : Prop :=
  ∀ (b : Nat → Byte) (lane : Option LaneId),
    let passes : Nat → Prop := fun field => match field with
      | 0 => b 0 ≠ 0
      | 1 => lane ≠ none
      | 2 => (b 2).toNat ≤ 3
      | 3 => (b 2 = 0 → -14 ≤ (b 3).toInt ∧ (b 3).toInt ≤ 14) ∧ (b 2 = 1 → -24 ≤ (b 3).toInt ∧ (b 3).toInt ≤ 24) ∧
             (b 2 = 2 → -4 ≤ (b 3).toInt ∧ (b 3).toInt ≤ 4 ∧ (b 3).toInt ≠ 0) ∧ (b 2 = 3 → (b 3).toNat ≤ 119)
      | 4 => -14 ≤ (b 4).toInt ∧ (b 4).toInt ≤ 14
      | 7 => 12 ≤ (b 7).toNat ∧ (b 7).toNat ≤ 108
      | 8 => 12 ≤ (b 8).toNat ∧ (b 8).toNat ≤ 108 ∧ (b 7).toNat + 12 ≤ (b 8).toNat
      | 12 => (b 13).toNat ≤ 1
      | _ => True
    (∀ field, templateOf b lane = .error field ↔ ¬passes field ∧ ∀ j < field, passes j) ∧
    (∀ k, lane = some k → (∀ field, passes field) →
      templateOf b lane = .ok
        { tag := (b 0).toNat, lane := k
          rule := if b 2 = 0 then .scale else if b 2 = 1 then .fixed else if b 2 = 2 then .chord else .pinned
          operand := (b 3).toInt, fallback := (b 4).toInt, follow := min 128 (b 5).toNat
          detune := max (-50) (min 50 (b 6).toInt), lo := (b 7).toNat, hi := (b 8).toNat
          glide := min 120 (b 9).toNat, level := min 4096 (b 10 ++ b 11 : BitVec 16).toNat
          pan := min 127 (b 12).toNat, group := if b 13 = 0 then .foreground else .background
          attack := max 1 (b 14).toNat, release := max 1 (b 15).toNat })

/-- CREATE VOICE (R62, R63): its six checks in order; then the arbiter's slot is set PENDING with owner CONTROL and a new
generation, joins the age list, a CREATE entry with its handle is staged, and the handle is returned. -/
def Obligations.CreateVoiceChecksThenAllocates : Prop :=
  ∀ (s : State) (f : CommandFrame), Takes s ⟨0x20, f⟩ → f.declared = 16 →
    let u := atTaking s ⟨0x20, f⟩
    let holds := fun (k : LaneId) (t : Template) (i : Slot) =>
      s.voices[i].state ≠ .free ∧ s.voices[i].template.lane = k ∧ s.voices[i].template.tag = t.tag
    (4 ≤ f.operands[0].toNat → exec (.createVoice f) s = .next (refusedState u 1 4 0x20 f.operands[0])) ∧
    (∀ k : LaneId, f.operands[0].toNat = k.val →
      (s.lanes[k].settings.on = false →
        exec (.createVoice f) s = .next (refusedState u 4 13 0x20 f.operands[0])) ∧
      (s.lanes[k].settings.on = true →
        (∀ e, templateOf (dat f) (some k) = .error e →
          exec (.createVoice f) s = .next (refusedState u 1 3 0x20 (BitVec.ofNat 8 e))) ∧
        (∀ t, templateOf (dat f) (some k) = .ok t →
          (∀ i : Slot, holds k t i → (∀ j < i, ¬holds k t j) →
            exec (.createVoice f) s = .next (refusedState u 2 6 0x20 (BitVec.ofNat 8 i.val))) ∧
          ((∀ i : Slot, ¬holds k t i) →
            (¬Room s → exec (.createVoice f) s = .next (refusedState u 3 11 0x20 (BitVec.ofNat 8 s.queue.length))) ∧
            (Room s → obtainSlot u = none →
              exec (.createVoice f) s = .next (refusedState u 3 10 0x20 f.operands[0])) ∧
            (Room s → ∀ (i : Slot) (w : State), obtainSlot u = some (i, w) →
              let g := w.voices[i].generation + 1
              exec (.createVoice f) s = .next (doneState
                { w with
                  voices := w.voices.set i
                    { template := t, state := .pending, generation := g, owner := .control, fresh := false
                      frozen := none, nt := 0, t := 0, o := 0, delta := 0, ratio := 65536, clamped := false
                      fallbackUsed := false, levelTarget := 0, level := 0 }
                  ageList := w.ageList ++ [i]
                  queue := w.queue ++ [.create { slot := i, generation := g }] }
                [BitVec.ofNat 8 i.val, BitVec.ofNat 8 g.val]))))))

/-- The pool arbiter (R78 to R82): the lowest FREE slot; with none, the victim, which is freed with its channel cut and
VOICE_STOLEN raised; with no victim, none, and nothing is stolen. -/
def Obligations.ArbiterChoosesFreeSlotOrVictim : Prop :=
  ∀ s : State,
    let first : List Slot → (Slot → Prop) → Slot → Prop := fun l test i =>
      ∃ a b, l = a ++ i :: b ∧ test i ∧ ∀ j ∈ a, ¬test j
    let background : Slot → Prop := fun i => s.voices[i].template.group = .background
    let open' : Slot → Prop := fun i => s.voices[i].template.group = .background ∧ s.voices[i].state ≠ .pending
    (∀ i : Slot, s.voices[i].state = .free → (∀ j < i, s.voices[j].state ≠ .free) → obtainSlot s = some (i, s)) ∧
    ((∀ i : Slot, s.voices[i].state ≠ .free) →
      (∀ i : Slot, first s.releaseList background i ∨
          ((∀ j ∈ s.releaseList, ¬background j) ∧ first s.ageList open' i) →
        ∃ (v : Voice) (c : Channel), obtainSlot s = some (i,
          { s with
            voices := s.voices.set i v
            ageList := s.ageList.filter (· ≠ i)
            releaseList := s.releaseList.filter (· ≠ i)
            channels := s.channels.set i c
            notices := s.notices.set 5 { s.notices[5] with
              pending := true, count := min 255 (s.notices[5].count + 1), subject := i.val } }) ∧
          v.state = .free ∧ v.generation = s.voices[i].generation ∧
          c = { s.channels[i] with state := .cutting, startGain := channelGain s.channels[i], endGain := 0
                                   startRatio := channelRatio s.channels[i], endRatio := channelRatio s.channels[i]
                                   startPan := channelPan s.channels[i], endPan := channelPan s.channels[i]
                                   nextGain := 0, position := 0 }) ∧
      ((∀ j ∈ s.releaseList, ¬background j) → (∀ j ∈ s.ageList, ¬open' j) → obtainSlot s = none))

/-- MODIFY VOICE (R64): its checks in order, the value taken as R45 gives for the field, a MODIFY entry staged, and the value as
it will be stored returned. That the first value byte of a one-byte field is not examined is the model's choice
(assumption 6). -/
def Obligations.ModifyVoiceStagesStoredValue : Prop :=
  ∀ (s : State) (f : CommandFrame), Takes s ⟨0x21, f⟩ → f.declared = 0 →
    let u := atTaking s ⟨0x21, f⟩
    let hi := f.operands[3]
    let lo := f.operands[4]
    (16 ≤ f.operands[0].toNat → exec (.modifyVoice f) s = .next (refusedState u 1 4 0x21 f.operands[0])) ∧
    (∀ i : Slot, f.operands[0].toNat = i.val →
      (s.voices[i].state = .free ∨ s.voices[i].generation.val ≠ f.operands[1].toNat →
        exec (.modifyVoice f) s = .next (refusedState u 2 5 0x21 f.operands[0])) ∧
      (s.voices[i].state ≠ .free → s.voices[i].generation.val = f.operands[1].toNat →
        let bad : Byte → Prop := fun d => exec (.modifyVoice f) s = .next (refusedState u 1 3 0x21 d)
        let stages : Modification → List Byte → Prop := fun m bytes => exec (.modifyVoice f) s = .next
          (if Room s then doneState
              { u with queue := s.queue ++ [.modify { slot := i, generation := s.voices[i].generation } m] } bytes
            else refusedState u 3 11 0x21 (BitVec.ofNat 8 s.queue.length))
        let rule : RuleKind → Int → Int → Prop := fun kind low high =>
          if low ≤ lo.toInt ∧ lo.toInt ≤ high ∧ (kind = .chord → lo ≠ 0) then stages (.rule kind lo.toInt) [hi, lo] else bad 3
        let field := f.operands[2].toNat
        (field ∉ [2, 4, 5, 6, 7, 9, 10, 11, 12, 13, 14] → bad f.operands[2]) ∧
        (field = 2 → (hi = 0 → rule .scale (-14) 14) ∧ (hi = 1 → rule .fixed (-24) 24) ∧ (hi = 2 → rule .chord (-4) 4) ∧
          (hi = 3 → rule .pinned 0 119) ∧ (4 ≤ hi.toNat → bad 2)) ∧
        (field = 4 → if -14 ≤ lo.toInt ∧ lo.toInt ≤ 14 then stages (.fallback lo.toInt) [0, lo] else bad 4) ∧
        (field = 5 → stages (.follow (min 128 lo.toNat)) [0, BitVec.ofNat 8 (min 128 lo.toNat)]) ∧
        (field = 6 → stages (.detune (max (-50) (min 50 lo.toInt))) [0, BitVec.ofInt 8 (max (-50) (min 50 lo.toInt))]) ∧
        (field = 7 → if ¬(12 ≤ hi.toNat ∧ hi.toNat ≤ 108) then bad 7
          else if ¬(12 ≤ lo.toNat ∧ lo.toNat ≤ 108) ∨ lo.toNat < hi.toNat + 12 then bad 8
          else stages (.range hi.toNat lo.toNat) [hi, lo]) ∧
        (field = 9 → stages (.glide (min 120 lo.toNat)) [0, BitVec.ofNat 8 (min 120 lo.toNat)]) ∧
        (field = 10 → stages (.level (min 4096 (hi ++ lo : BitVec 16).toNat)) (be16 (min 4096 (hi ++ lo : BitVec 16).toNat))) ∧
        (field = 11 → stages (.pan (min 127 lo.toNat)) [0, BitVec.ofNat 8 (min 127 lo.toNat)]) ∧
        (field = 12 → (lo = 0 → stages (.group .foreground) [0, 0]) ∧ (lo = 1 → stages (.group .background) [0, 1]) ∧
          (2 ≤ lo.toNat → bad 12)) ∧
        (field = 13 → stages (.attack (max 1 lo.toNat)) [0, BitVec.ofNat 8 (max 1 lo.toNat)]) ∧
        (field = 14 → stages (.release (max 1 lo.toNat)) [0, BitVec.ofNat 8 (max 1 lo.toNat)])))

/-- RETIRE VOICE (R66) and RETIRE LANE (R69): their checks in order, then the entry staged with no result bytes. -/
def Obligations.RetireCommandsStage : Prop :=
  (∀ (s : State) (f : CommandFrame), Takes s ⟨0x22, f⟩ → f.declared = 0 →
    let u := atTaking s ⟨0x22, f⟩
    (16 ≤ f.operands[0].toNat → exec (.retireVoice f) s = .next (refusedState u 1 4 0x22 f.operands[0])) ∧
    (∀ i : Slot, f.operands[0].toNat = i.val →
      exec (.retireVoice f) s = .next
        (if s.voices[i].state = .free ∨ s.voices[i].generation.val ≠ f.operands[1].toNat then
          refusedState u 2 5 0x22 f.operands[0]
        else if 1 < f.operands[2].toNat then refusedState u 1 3 0x22 f.operands[0]
        else if ¬Room s then refusedState u 3 11 0x22 (BitVec.ofNat 8 s.queue.length)
        else doneState { u with queue := s.queue ++ [.retire { slot := i, generation := s.voices[i].generation }
                                                      (if f.operands[2] = 0 then .release else .kill)] } []))) ∧
  (∀ (s : State) (f : CommandFrame), Takes s ⟨0x23, f⟩ → f.declared = 0 →
    let u := atTaking s ⟨0x23, f⟩
    (4 ≤ f.operands[0].toNat → exec (.retireLane f) s = .next (refusedState u 1 4 0x23 f.operands[0])) ∧
    (∀ k : LaneId, f.operands[0].toNat = k.val →
      exec (.retireLane f) s = .next
        (if 1 < f.operands[1].toNat ∨ 2 < f.operands[2].toNat then refusedState u 1 3 0x23 f.operands[0]
        else if ¬Room s then refusedState u 3 11 0x23 (BitVec.ofNat 8 s.queue.length)
        else doneState { u with queue := s.queue ++ [.retireLane k
            (if f.operands[1] = 0 then .release else .kill)
            (if f.operands[2] = 0 then .all else if f.operands[2] = 1 then .control else .scene)] } [])))

/-- READ VOICE (R70): the 32-byte image, and nothing but the port changes.
FIND VOICE (R71), LIST VOICES (R72) and TEST SETTLED (R73): their answers; nothing but the port changes. -/
def Obligations.VoiceReadsAndLookups : Prop :=
  (∀ (s : State) (f : CommandFrame), Takes s ⟨0x24, f⟩ → f.declared = 0 →
    let u := atTaking s ⟨0x24, f⟩
    (16 ≤ f.operands[0].toNat → exec (.readVoice f) s = .next (refusedState u 1 4 0x24 f.operands[0])) ∧
    (∀ i : Slot, f.operands[0].toNat = i.val →
      let v := s.voices[i]
      let t := v.template
      exec (.readVoice f) s = .next
        (if v.state = .free ∨ v.generation.val ≠ f.operands[1].toNat then refusedState u 2 5 0x24 f.operands[0]
        else doneState u
          ([(match v.state with | .free => 0 | .pending => 0x10 | .acquiring => 0x20 | .active => 0x30 | .holding => 0x40
                                | .releasing => 0x50) + BitVec.ofNat 8 v.generation.val,
            (BitVec.ofBool v.fallbackUsed ++ BitVec.ofBool v.clamped ++ BitVec.ofBool v.frozen.isSome ++
              BitVec.ofBool v.fresh ++ BitVec.ofBool (v.owner = .scene) : BitVec 5).setWidth 8,
            BitVec.ofNat 8 t.tag, BitVec.ofNat 8 t.lane.val,
            (match t.rule with | .scale => 0 | .fixed => 1 | .chord => 2 | .pinned => 3),
            BitVec.ofInt 8 t.operand, BitVec.ofInt 8 t.fallback, BitVec.ofNat 8 t.follow, BitVec.ofInt 8 t.detune,
            BitVec.ofNat 8 t.lo, BitVec.ofNat 8 t.hi, BitVec.ofNat 8 t.glide] ++ be16 t.level ++
           [BitVec.ofNat 8 t.pan, (match t.group with | .foreground => 0 | .background => 1), BitVec.ofNat 8 t.attack,
            BitVec.ofNat 8 t.release,
            (match v.frozen with | some n => BitVec.ofInt 8 n | none => 0), BitVec.ofInt 8 v.nt] ++
           be16 v.t ++ be16 v.o ++ be16 v.delta ++ BitVec.ofNat 8 (v.ratio / 65536) :: be16 v.ratio ++ be16 v.level ++
           [0])))) ∧
  (let code : VoiceState → Byte := fun st => match st with
    | .free => 0 | .pending => 1 | .acquiring => 2 | .active => 3 | .holding => 4 | .releasing => 5
  (∀ (s : State) (f : CommandFrame), Takes s ⟨0x25, f⟩ → f.declared = 0 →
    let u := atTaking s ⟨0x25, f⟩
    let holds := fun (k : LaneId) (i : Slot) => s.voices[i].state ≠ .free ∧ s.voices[i].template.lane = k ∧
      s.voices[i].template.tag = f.operands[1].toNat ∧ f.operands[1] ≠ 0
    (4 ≤ f.operands[0].toNat → exec (.findVoice f) s = .next (refusedState u 1 4 0x25 f.operands[0])) ∧
    (∀ k : LaneId, f.operands[0].toNat = k.val →
      ((∀ i : Slot, ¬holds k i) → exec (.findVoice f) s = .next (refusedState u 2 7 0x25 f.operands[0])) ∧
      (∀ i : Slot, holds k i → (∀ j < i, ¬holds k j) →
        exec (.findVoice f) s = .next (doneState u
          [BitVec.ofNat 8 i.val, BitVec.ofNat 8 s.voices[i].generation.val, code s.voices[i].state])))) ∧
  (∀ (s : State) (f : CommandFrame), Takes s ⟨0x26, f⟩ → f.declared = 0 →
    exec (.listVoices f) s = .next (doneState (atTaking s ⟨0x26, f⟩)
      (((List.finRange 16).map fun i : Slot => code s.voices[i].state) ++
        [BitVec.ofNat 8 ((List.finRange 16).countP fun i : Slot => s.voices[i].state = .free)]))) ∧
  (∀ (s : State) (f : CommandFrame), Takes s ⟨0x27, f⟩ → f.declared = 0 →
    let u := atTaking s ⟨0x27, f⟩
    (16 ≤ f.operands[0].toNat → exec (.testSettled f) s = .next (refusedState u 1 4 0x27 f.operands[0])) ∧
    (∀ i : Slot, f.operands[0].toNat = i.val →
      let v := s.voices[i]
      exec (.testSettled f) s = .next
        (if v.state = .free ∨ v.generation.val ≠ f.operands[1].toNat then refusedState u 2 5 0x27 f.operands[0]
        else doneState u
          [if v.state = .releasing then 3
           else if v.state = .pending ∨ v.state = .acquiring ∨ v.levelTarget = 0 then 2
           else if v.o = v.t then 0 else 1]))))

/-! ### Key map, scenes, setlist -/

/-- SET KEY MAP (R106): its checks, the tonic added, the ref clamped, a KEY_MAP entry staged, the fields as stored returned; the
key map in force stays. READ KEY MAP (R105, R107): the key map in force with its derived degree list. -/
def Obligations.KeyMapCommands : Prop :=
  (∀ (s : State) (f : CommandFrame), Takes s ⟨0x30, f⟩ → f.declared = 0 →
    let u := atTaking s ⟨0x30, f⟩
    let sent : BitVec 16 := f.operands[1] ++ f.operands[2]
    let ref := max (-50) (min 50 f.operands[3].toInt)
    (12 ≤ f.operands[0].toNat → exec (.setKeyMap f) s = .next (refusedState u 1 3 0x30 0)) ∧
    (∀ t : Fin 12, f.operands[0].toNat = t.val →
      let members : BitVec 12 := sent.setWidth 12 ||| BitVec.twoPow 12 t.val
      exec (.setKeyMap f) s = .next
        (if 4096 ≤ sent.toNat then refusedState u 1 3 0x30 1
        else if ¬Room s then refusedState u 3 11 0x30 (BitVec.ofNat 8 s.queue.length)
        else doneState { u with queue := s.queue ++ [.keyMap { tonic := t, members := members, ref := ref }] }
          (f.operands[0] :: be16 members.toNat ++ [BitVec.ofInt 8 ref])))) ∧
  (∀ (s : State) (f : CommandFrame), Takes s ⟨0x31, f⟩ → f.declared = 0 →
    let k := s.keyMap
    let degrees := (List.range 12).filter fun i => k.members.getLsbD ((k.tonic.val + i) % 12)
    exec (.readKeyMap f) s = .next (doneState (atTaking s ⟨0x31, f⟩)
      (BitVec.ofNat 8 k.tonic.val :: be16 k.members.toNat ++
        [BitVec.ofInt 8 k.ref, BitVec.ofNat 8 degrees.length] ++
        (degrees.map (BitVec.ofNat 8) ++ List.replicate 12 0).take 12)))

/-- LOAD SCENE (R110, R111): a refused scene number or header field; the templates in use examined one after another, each in its
fields, its lane and its tag; and when nothing fails the scene is stored whole. `ts` are templates that have passed. -/
def Obligations.LoadSceneExaminesThenStores : Prop :=
  ∀ (s : State) (f : CommandFrame), Takes s ⟨0x32, f⟩ → f.declared = 148 →
    let u := atTaking s ⟨0x32, f⟩
    let refuses : Nat → Prop := fun d => exec (.loadScene f) s = .next (refusedState u 1 3 0x32 (BitVec.ofNat 8 d))
    let sent : BitVec 16 := dat f 1 ++ dat f 2
    let modeOk : Nat → Prop := fun k => (dat f (6 + k)).toNat % 16 ≤ 1
    let bypassOk : Nat → Prop := fun k => (dat f (6 + k)).toNat / 16 ≤ 1
    let count := (dat f 5).toNat
    let headerOk := (dat f 0).toNat ≤ 11 ∧ sent.toNat < 4096 ∧ (dat f 4).toNat ≤ 1 ∧ count ≤ 8
    let lanes : Vector SceneLane 4 := Vector.ofFn fun k =>
      { on := (dat f (6 + k.val)).toNat % 16 = 1, bypass := (dat f (6 + k.val)).toNat / 16 = 1
        dry := min 4096 (dat f (10 + 2 * k.val) ++ dat f (11 + 2 * k.val) : BitVec 16).toNat }
    let examined : Nat → Except Nat Template := fun t =>
      templateOf (fun i => dat f (18 + 16 * t + i)) (if h : (dat f (19 + 16 * t)).toNat < 4 then some ⟨_, h⟩ else none)
    (32 ≤ f.operands[0].toNat → exec (.loadScene f) s = .next (refusedState u 1 4 0x32 f.operands[0])) ∧
    (∀ n : SceneId, f.operands[0].toNat = n.val →
      (11 < (dat f 0).toNat → refuses 0) ∧
      ((dat f 0).toNat ≤ 11 → 4096 ≤ sent.toNat → refuses 1) ∧
      ((dat f 0).toNat ≤ 11 → sent.toNat < 4096 → 1 < (dat f 4).toNat → refuses 3) ∧
      ((dat f 0).toNat ≤ 11 → sent.toNat < 4096 → (dat f 4).toNat ≤ 1 → 8 < count → refuses 4) ∧
      (headerOk → ∀ k : LaneId, ¬modeOk k.val → (∀ j : LaneId, j < k → modeOk j.val) → refuses (5 + k.val)) ∧
      (headerOk → (∀ j : LaneId, modeOk j.val) → ∀ k : LaneId, ¬bypassOk k.val →
        (∀ j : LaneId, j < k → bypassOk j.val) → refuses (9 + k.val)) ∧
      (headerOk → (∀ j : LaneId, modeOk j.val ∧ bypassOk j.val) → ∀ ts : List Template, ts.length ≤ count →
        (∀ (i : Nat) (h : i < ts.length), examined i = .ok ts[i] ∧ lanes[ts[i].lane].on = true ∧
          ∀ (j : Nat) (hj : j < i), ¬(ts[j].tag = ts[i].tag ∧ ts[j].lane = ts[i].lane)) →
        (ts.length = count → ∃ tonic : Fin 12, tonic.val = (dat f 0).toNat ∧
          exec (.loadScene f) s = .next (doneState
            { u with scenes := s.scenes.set n (some
                { keyMap := { tonic := tonic, members := sent.setWidth 12 ||| BitVec.twoPow 12 tonic.val
                              ref := max (-50) (min 50 (dat f 3).toInt) }
                  takeMode := if dat f 4 = 0 then .keepControl else .clearAll
                  lanes := lanes, templates := ts }) } [])) ∧
        (ts.length < count →
          (∀ e, examined ts.length = .error e → refuses (16 + 16 * ts.length + e)) ∧
          (∀ t, examined ts.length = .ok t →
            (lanes[t.lane].on = false → refuses (16 + 16 * ts.length + 1)) ∧
            (lanes[t.lane].on = true → (∃ d ∈ ts, d.tag = t.tag ∧ d.lane = t.lane) → refuses (16 + 16 * ts.length))))))

/-- READ SCENE (R113) returns a LOADED scene's record; CLEAR SCENE (R112) makes a scene EMPTY; TAKE SCENE (R114) stages its take;
a scene number above 31 is BAD_TARGET, an EMPTY scene read or taken is SCENE_EMPTY. -/
def Obligations.SceneReadClearTake : Prop :=
  (∀ (s : State) (f : CommandFrame), Takes s ⟨0x33, f⟩ → f.declared = 0 →
    let u := atTaking s ⟨0x33, f⟩
    (32 ≤ f.operands[0].toNat → exec (.readScene f) s = .next (refusedState u 1 4 0x33 f.operands[0])) ∧
    (∀ n : SceneId, f.operands[0].toNat = n.val →
      (s.scenes[n] = none → exec (.readScene f) s = .next (refusedState u 2 9 0x33 f.operands[0])) ∧
      (∀ sc, s.scenes[n] = some sc → exec (.readScene f) s = .next (doneState u (sceneBytes sc))))) ∧
  (∀ (s : State) (f : CommandFrame), Takes s ⟨0x34, f⟩ → f.declared = 0 →
    let u := atTaking s ⟨0x34, f⟩
    (32 ≤ f.operands[0].toNat → exec (.clearScene f) s = .next (refusedState u 1 4 0x34 f.operands[0])) ∧
    (∀ n : SceneId, f.operands[0].toNat = n.val →
      exec (.clearScene f) s = .next (doneState { u with scenes := s.scenes.set n none } []))) ∧
  (∀ (s : State) (f : CommandFrame), Takes s ⟨0x35, f⟩ → f.declared = 0 →
    let u := atTaking s ⟨0x35, f⟩
    (32 ≤ f.operands[0].toNat → exec (.takeScene f) s = .next (refusedState u 1 4 0x35 f.operands[0])) ∧
    (∀ n : SceneId, f.operands[0].toNat = n.val →
      exec (.takeScene f) s = .next
        (if s.scenes[n] = none then refusedState u 2 9 0x35 f.operands[0]
        else if ¬Room s then refusedState u 3 11 0x35 (BitVec.ofNat 8 s.queue.length)
        else doneState { u with queue := s.queue ++ [.take n] } [])))

/-- The scene record (R110, R113, R191): the 148 bytes of a stored scene, sent back by LOAD SCENE, are examined to that very
scene; its bytes beyond the templates in use are 0. -/
def Obligations.SceneRecordRoundTrip : Prop :=
  ∀ (sc : Scene) (f : CommandFrame), SceneLegal sc → f.data = sceneBytes sc →
    f.data.length = 148 ∧ sceneOf f = .ok sc ∧ ∀ i, 18 + 16 * sc.templates.length ≤ i → dat f i = 0

/-- LOAD SETLIST (R120): its checks, then list, length and end mode replaced and the position 0. READ SETLIST (R121).
ADVANCE SETLIST (R122, R123): the checks, then the decision from the setlist as it stands; a move and its take are one act. -/
def Obligations.SetlistCommands : Prop :=
  ((∀ (s : State) (f : CommandFrame), Takes s ⟨0x36, f⟩ → f.declared = 64 →
    let u := atTaking s ⟨0x36, f⟩
    let n := f.operands[0].toNat
    let refuses : Nat → Prop := fun d => exec (.loadSetlist f) s = .next (refusedState u 1 3 0x36 (BitVec.ofNat 8 d))
    (64 < n → refuses 0) ∧
    (n ≤ 64 → 1 < f.operands[1].toNat → refuses 1) ∧
    (n ≤ 64 → f.operands[1].toNat ≤ 1 → ∀ i : Fin 64, i.val < n → 31 < (dat f i.val).toNat →
      (∀ j : Fin 64, j < i → (dat f j.val).toNat ≤ 31) → refuses (2 + i.val)) ∧
    (n ≤ 64 → f.operands[1].toNat ≤ 1 → ∀ entries : List SceneId, entries.length = n →
      entries.map (fun e : SceneId => e.val) = (f.data.take n).map BitVec.toNat →
      exec (.loadSetlist f) s = .next
        (doneState { u with setlist := { entries := entries, position := 0, wrap := f.operands[1] = 1 } } []))) ∧
  (∀ (s : State) (f : CommandFrame), Takes s ⟨0x37, f⟩ → f.declared = 0 →
    exec (.readSetlist f) s = .next (doneState (atTaking s ⟨0x37, f⟩)
      ([BitVec.ofNat 8 s.setlist.entries.length, if s.setlist.wrap then 1 else 0, BitVec.ofNat 8 s.setlist.position] ++
       (s.setlist.entries.map (fun e : SceneId => BitVec.ofNat 8 e.val) ++ List.replicate 64 0).take 64)))) ∧
  (∀ (s : State) (f : CommandFrame), Takes s ⟨0x38, f⟩ → f.declared = 0 → SetlistLegal s.setlist →
    let u := atTaking s ⟨0x38, f⟩
    let code := f.operands[0].toNat
    let q := f.operands[1].toNat
    let len := s.setlist.entries.length
    let pos := s.setlist.position
    let moves : Nat → Prop := fun p => ∀ n : SceneId, s.setlist.entries[p]? = some n →
      exec (.advanceSetlist f) s = .next
        (if Room s then doneState { u with queue := s.queue ++ [.take n], setlist := { s.setlist with position := p } }
            [BitVec.ofNat 8 p, 1, BitVec.ofNat 8 n.val]
          else refusedState u 3 11 0x38 (BitVec.ofNat 8 s.queue.length))
    let ends : Prop := exec (.advanceSetlist f) s = .next (doneState
      { u with notices := s.notices.set 13 { s.notices[13] with
          pending := true, count := min 255 (s.notices[13].count + 1), subject := pos } }
      [BitVec.ofNat 8 pos, 0, 0xFF])
    (code = 0 ∨ 3 < code → exec (.advanceSetlist f) s = .next (refusedState u 1 3 0x38 0)) ∧
    (1 ≤ code → code ≤ 3 → len = 0 → exec (.advanceSetlist f) s = .next (refusedState u 2 7 0x38 0)) ∧
    (0 < len →
      (code = 1 → (pos + 1 < len → moves (pos + 1)) ∧ (pos + 1 = len → s.setlist.wrap = true → moves 0) ∧
        (pos + 1 = len → s.setlist.wrap = false → ends)) ∧
      (code = 2 → (0 < pos → moves (pos - 1)) ∧ (pos = 0 → s.setlist.wrap = true → moves (len - 1)) ∧
        (pos = 0 → s.setlist.wrap = false → ends)) ∧
      (code = 3 → (q < len → moves q) ∧
        (len ≤ q → exec (.advanceSetlist f) s = .next (refusedState u 1 3 0x38 f.operands[1])))))

/-! ### The armed cue's commands -/

/-- ARM CUE (R127, R128): its nine checks in order, then the record.
DISARM CUE (R129) and FIRE CUE (R132): what each does to an ARMED and to an IDLE record. A FIFO head that waits is to be
tried again when the reserve ends (R144). -/
def Obligations.ArmedCueCommands : Prop :=
  (∀ (s : State) (f : CommandFrame), Takes s ⟨0x40, f⟩ → f.declared = 8 →
    let u := atTaking s ⟨0x40, f⟩
    let set12 : BitVec 12 := (dat f 2 ++ dat f 3 : BitVec 16).setWidth 12
    let timeout := min 4095 (dat f 4 ++ dat f 5 : BitVec 16).toNat
    (32 ≤ (dat f 0).toNat → exec (.armCue f) s = .next (refusedState u 1 4 0x40 (dat f 0))) ∧
    (∀ n : SceneId, (dat f 0).toNat = n.val →
      (4 ≤ (dat f 1).toNat → exec (.armCue f) s = .next (refusedState u 1 4 0x40 (dat f 1))) ∧
      (∀ k : LaneId, (dat f 1).toNat = k.val →
        exec (.armCue f) s = .next
          (if set12 = 0 then refusedState u 1 3 0x40 2
          else if 1 < (dat f 6).toNat then refusedState u 1 3 0x40 4
          else if s.cue.armed = true then refusedState u 3 12 0x40 (BitVec.ofNat 8 s.cue.scene.val)
          else if s.scenes[n] = none then refusedState u 2 9 0x40 (dat f 0)
          else if s.lanes[k].settings.on = false then refusedState u 4 13 0x40 (dat f 1)
          else if 16 ≤ s.queue.length then refusedState u 3 11 0x40 16
          else doneState
            { u with cue := { armed := true, scene := n, lane := k, matchSet := set12, timeout := timeout
                              action := if dat f 6 = 0 then .take else .drop, remaining := timeout } }
            (be16 timeout))))) ∧
  ((∀ (s : State) (f : CommandFrame), Takes s ⟨0x41, f⟩ → f.declared = 0 →
    let u := atTaking s ⟨0x41, f⟩
    exec (.disarmCue f) s = .next
      (if s.cue.armed = true then doneState
        { u with cue := { s.cue with armed := false, remaining := 0 }, link := { s.link with headWaits := false } } [1]
      else doneState u [0])) ∧
  (∀ (s : State) (f : CommandFrame), Takes s ⟨0x42, f⟩ → f.declared = 0 →
    let u := atTaking s ⟨0x42, f⟩
    exec (.fireCue f) s = .next
      (if s.cue.armed = true then doneState
        { u with
          queue := s.queue ++ [.take s.cue.scene]
          cue := { s.cue with armed := false, remaining := 0 }
          link := { s.link with headWaits := false }
          notices := s.notices.set 11 { s.notices[11] with
            pending := true, count := min 255 (s.notices[11].count + 1), subject := s.cue.scene.val } }
        [BitVec.ofNat 8 s.cue.scene.val]
      else refusedState u 2 7 0x42 0)))

/-! ### Cue-link commands and pedal commands -/

/-- READ CHORD SET (R151), CLEAR CHORD SET (R150) and SET CUE LINK (R152). -/
def Obligations.CueLinkCommands : Prop :=
  let faults : FaultCounts → List Byte := fun c => [BitVec.ofNat 8 c.stray, BitVec.ofNat 8 c.framing, BitVec.ofNat 8 c.check,
    BitVec.ofNat 8 c.content, BitVec.ofNat 8 c.overrun]
  (∀ (s : State) (f : CommandFrame), Takes s ⟨0x50, f⟩ → f.declared = 0 →
    ∃ classes : BitVec 12,
      (∀ k : Fin 12, classes.getLsbD k.val = true ↔ ∃ e ∈ s.chord.entries, e.note % 12 = k.val) ∧
      exec (.readChordSet f) s = .next (doneState (atTaking s ⟨0x50, f⟩)
        ([BitVec.ofNat 8 s.chord.entries.length] ++
         (s.chord.entries.flatMap (fun e : ChordEntry => [BitVec.ofNat 8 e.note, if e.down then 1 else 0]) ++
           List.replicate 16 0).take 16 ++
         [if s.chord.latch then 1 else 0] ++ be16 classes.toNat ++
         [BitVec.ofNat 8 s.link.fifo.length, if s.link.hold then 1 else 0] ++ faults s.link.faults))) ∧
  (∀ (s : State) (f : CommandFrame), Takes s ⟨0x51, f⟩ → f.declared = 0 →
    let u := atTaking s ⟨0x51, f⟩
    exec (.clearChordSet f) s = .next (doneState { u with chord := { entries := [], latch := s.chord.latch } } [])) ∧
  (∀ (s : State) (f : CommandFrame), Takes s ⟨0x52, f⟩ → f.declared = 0 →
    let u := atTaking s ⟨0x52, f⟩
    exec (.setCueLink f) s = .next
      (if 1 < f.operands[0].toNat then refusedState u 1 3 0x52 0
      else if 1 < f.operands[1].toNat then refusedState u 1 3 0x52 1
      else doneState
        { u with
          chord := if f.operands[0] = 1 then { s.chord with latch := true }
            else { entries := s.chord.entries.filter (·.down), latch := false }
          link := if f.operands[1] = 1 then
              { s.link with faults := { stray := 0, framing := 0, check := 0, content := 0, overrun := 0 } }
            else s.link }
        (faults s.link.faults)))

/-- SET PEDALS and READ PEDALS (R182). -/
def Obligations.PedalCommands : Prop :=
  let bytes : Binding → List Byte := fun b => match b with
    | .none => [0, 0] | .setlistNext => [1, 0] | .setlistPrev => [2, 0] | .freezeToggle k => [3, BitVec.ofNat 8 k.val]
    | .bypassToggle k => [4, BitVec.ofNat 8 k.val] | .fireCue => [5, 0] | .chordClear => [6, 0]
  (∀ (s : State) (f : CommandFrame), Takes s ⟨0x60, f⟩ → f.declared = 8 →
    let u := atTaking s ⟨0x60, f⟩
    let code := fun p : PedalId => (dat f (2 * p.val)).toNat
    let lane := fun p : PedalId => (dat f (2 * p.val + 1)).toNat
    let ok : PedalId → Prop := fun p => code p ≤ 6 ∧ (code p = 3 ∨ code p = 4 → lane p ≤ 3)
    (∀ p : PedalId, (∀ q, q < p → ok q) →
      (6 < code p → exec (.setPedals f) s = .next (refusedState u 1 3 0x60 (BitVec.ofNat 8 p.val))) ∧
      ((code p = 3 ∨ code p = 4) → 3 < lane p →
        exec (.setPedals f) s = .next (refusedState u 1 3 0x60 (BitVec.ofNat 8 (4 + p.val))))) ∧
    ((∀ p, ok p) → ∃ ps : Vector Pedal 4,
      exec (.setPedals f) s = .next (doneState { u with pedals := ps } []) ∧
      ∀ p : PedalId, ps[p].closed = s.pedals[p].closed ∧ ps[p].differing = s.pedals[p].differing ∧
        bytes ps[p].binding = [dat f (2 * p.val), if code p = 3 ∨ code p = 4 then dat f (2 * p.val + 1) else 0])) ∧
  (∀ (s : State) (f : CommandFrame), Takes s ⟨0x61, f⟩ → f.declared = 0 →
    exec (.readPedals f) s = .next (doneState (atTaking s ⟨0x61, f⟩)
      (bytes s.pedals[0].binding ++ bytes s.pedals[1].binding ++ bytes s.pedals[2].binding ++ bytes s.pedals[3].binding ++
       (List.finRange 4).map fun p : PedalId => if s.pedals[p].closed then 1 else 0)))

/-! ### Lane results -/

/-- A completed result (R3, R14): an OFF lane discards it; an ON lane takes it, LANE_LOCKED and LANE_LOST are raised with the
lane as subject, and a note arrival on a matching note fires the armed cue (R130). Everything the voices do not touch is as it
was; what they do is stated in `VoicesActAtLaneResult`. -/
def Obligations.LaneResultIsTaken : Prop :=
  ∀ (s : State) (k : LaneId) (r : LaneResult), s.inReset = false → s.clock.state = .present → s.lanes[k].due = true →
    let l := { s.lanes[k] with due := false }
    let o := takeResult l r s.keyMap.ref
    let fires := ∃ note, o.2.arrival = some note ∧ s.cue.armed = true ∧ s.cue.lane = k ∧
      s.cue.matchSet.getLsbD (note % 12).toNat = true
    let raised : Fin 17 → Nat → Notice := fun kind subject =>
      { s.notices[kind] with pending := true, count := min 255 (s.notices[kind].count + 1), subject := subject }
    (l.settings.on = false → exec (.laneResult k r) s = .next { s with lanes := s.lanes.set k l }) ∧
    (l.settings.on = true → ∃ t, exec (.laneResult k r) s = .next t ∧
      t.lanes = s.lanes.set k o.1 ∧
      t.lanes[k].resultCount = (s.lanes[k].resultCount + 1) % 65536 ∧ t.lanes[k].lastConfidence = r.confidence ∧
      t.notices[(3 : Fin 17)] = (if o.2.lost then raised 3 k.val else s.notices[(3 : Fin 17)]) ∧
      t.notices[(4 : Fin 17)] = (if o.2.locked then raised 4 k.val else s.notices[(4 : Fin 17)]) ∧
      (∀ kind : Fin 17, kind ≠ 3 → kind ≠ 4 → kind ≠ 6 → kind ≠ 11 → t.notices[kind] = s.notices[kind]) ∧
      (fires → t.queue = s.queue ++ [.take s.cue.scene] ∧ t.cue = { s.cue with armed := false, remaining := 0 } ∧
        t.link = { s.link with headWaits := false } ∧ t.notices[(11 : Fin 17)] = raised 11 s.cue.scene.val) ∧
      (¬fires → t.queue = s.queue ∧ t.cue = s.cue ∧ t.link = s.link ∧
        t.notices[(11 : Fin 17)] = s.notices[(11 : Fin 17)]) ∧
      t.keyMap = s.keyMap ∧ t.scenes = s.scenes ∧ t.currentScene = s.currentScene ∧ t.setlist = s.setlist ∧
      t.chord = s.chord ∧ t.mixers = s.mixers ∧ t.audio = s.audio ∧ t.clock = s.clock ∧ t.pedals = s.pedals ∧
      t.port = s.port ∧ t.inReset = s.inReset ∧ t.sampleNo = s.sampleNo ∧ t.pending = s.pending)

/-- HOLD_EXPIRY (R10) and LANE_LOST (R12) are the results at which HOLD gives way to REACQUIRE and REACQUIRE to SEARCH: each does
what the LANE_RESULT of the same lane and result does. That the table's rows for them take the result whole, and do nothing
where the result would not have that outcome, is the model's choice (assumption 18). -/
def Obligations.HoldExpiryAndLaneLostAreResults : Prop :=
  ∀ (s : State) (k : LaneId) (r : LaneResult), s.inReset = false → s.clock.state = .present → s.lanes[k].due = true →
    s.lanes[k].settings.on = true → classify s.lanes[k].chars r ≠ .voiced →
    (s.lanes[k].tracking = .hold →
      (s.lanes[k].counter ≤ 1 ∨ s.lanes[k].p < s.lanes[k].chars.lowLimit ∨ s.lanes[k].chars.highLimit < s.lanes[k].p) →
      ∃ t, exec (.holdExpiry k r) s = .next t ∧ exec (.laneResult k r) s = .next t ∧
        t.lanes[k].tracking = .reacquire ∧ t.lanes[k].counter = s.lanes[k].chars.reacquireFrames ∧
        t.lanes[k].p = s.lanes[k].p ∧ t.lanes[k].n = s.lanes[k].n ∧ t.lanes[k].d = s.lanes[k].d) ∧
    (s.lanes[k].tracking = .reacquire → s.lanes[k].counter ≤ 1 →
      ∃ t, exec (.laneLost k r) s = .next t ∧ exec (.laneResult k r) s = .next t ∧
        t.lanes[k].tracking = .search ∧ t.lanes[k].counter = 0 ∧
        t.notices[(3 : Fin 17)] = { s.notices[(3 : Fin 17)] with
          pending := true, count := min 255 (s.notices[(3 : Fin 17)].count + 1), subject := k.val })

/-- Classification (R4), the lock from SEARCH (R5, R6), the unvoiced results (R8, R10, R12) and the lock from REACQUIRE (R11):
the lane after a result and the events it hands on, and the lane's law of R8. That P, N_cur and D stand at 0 while they are
invalid is the model's choice (assumption 28). -/
def Obligations.LaneTransitions : Prop :=
  ∀ (l : Lane) (r : LaneResult) (ref : Int), l.settings.on = true →
    let raw := rawPitch r.period
    let within := fun x : Int => l.chars.lowLimit ≤ x ∧ x ≤ l.chars.highLimit
    let cls : ResultClass :=
      if r.voiced = false then .notVoiced else if r.confidence.toNat < l.chars.threshold then .lowConfidence
      else if r.period < 512 ∨ 12800 < r.period then .periodRange else if within raw then .voiced else .outOfLimits
    let note := (raw - ref + 50) / 100
    let m := { l with resultCount := (l.resultCount + 1) % 65536, lastConfidence := r.confidence, lastClass := cls }
    let quiet := { m with candidate := none, confirmCount := 0, octaveLength := 0, octaveDirection := .up }
    let lock := { quiet with tracking := .locked, p := raw, n := note, d := raw - ref - 100 * note }
    let away := { quiet with tracking := .reacquire, counter := l.chars.reacquireFrames }
    let count := if l.candidate = some note then l.confirmCount + 1 else 1
    (cls ≠ .voiced →
      (l.tracking = .search → takeResult l r ref = (quiet, {})) ∧
      (l.tracking = .locked → takeResult l r ref =
        (if ¬within l.p ∨ l.chars.holdFrames = 0 then away
         else { quiet with tracking := .hold, counter := l.chars.holdFrames }, {})) ∧
      (l.tracking = .hold → takeResult l r ref =
        (if ¬within l.p ∨ l.counter ≤ 1 then away else { quiet with counter := l.counter - 1 }, {})) ∧
      (l.tracking = .reacquire → takeResult l r ref =
        if l.counter ≤ 1 then ({ quiet with tracking := .search, p := 0, n := 0, d := 0, counter := 0 }, { lost := true })
        else ({ quiet with counter := l.counter - 1 }, {}))) ∧
    (cls = .voiced →
      (l.tracking = .search → takeResult l r ref =
        if l.chars.confirmFrames ≤ count then (lock, { locked := true, arrival := some note })
        else ({ m with candidate := some note, confirmCount := count }, {})) ∧
      (l.tracking = .reacquire →
        takeResult l r ref = ({ lock with counter := 0 }, { locked := true, arrival := some note }))) ∧
    ((takeResult l r ref).1.tracking = .locked ∨ (takeResult l r ref).1.tracking = .hold →
      l.tracking ≠ .off → within (takeResult l r ref).1.p)

/-- A voiced result in LOCKED or HOLD (R7, R9): it is counted and its class is VOICED (R3, R4); the octave check (R15, R16, R17),
the pitch update, the note decision (R19) and the deviation (R20). -/
def Obligations.LockedLaneFollowsVoicedResult : Prop :=
  ∀ (l : Lane) (r : LaneResult) (ref : Int), l.settings.on = true → l.tracking = .locked ∨ l.tracking = .hold →
    classify l.chars r = .voiced →
    let raw := rawPitch r.period
    let c := l.chars
    let suspect := fun sign : Int => c.octaveWindow ≠ 0 ∧ |raw - l.p - 1200 * sign| ≤ c.octaveWindow
    let length := fun dir : Direction => if 0 < l.octaveLength ∧ l.octaveDirection = dir then l.octaveLength + 1 else 1
    let corrects := fun (sign : Int) (dir : Direction) => suspect sign ∧ length dir < c.octavePersist ∧
      c.lowLimit ≤ raw - 1200 * sign ∧ raw - 1200 * sign ≤ c.highLimit
    let t := (takeResult l r ref).1
    let e := (takeResult l r ref).2
    t.lastClass = .voiced ∧ t.resultCount = (l.resultCount + 1) % 65536 ∧ t.lastConfidence = r.confidence ∧
    t.tracking = .locked ∧ (l.tracking = .hold → t.counter = 0) ∧ (l.tracking = .locked → t.counter = l.counter) ∧
    e.locked = false ∧ e.lost = false ∧
    (c.octaveWindow ≤ 100 → ∀ (sign : Int) (dir : Direction), (sign = 1 ∧ dir = .up) ∨ (sign = -1 ∧ dir = .down) →
      corrects sign dir →
        t.p = raw - 1200 * sign ∧ t.octaveLength = length dir ∧ t.octaveDirection = dir ∧
        t.correction = { raw := raw, corrected := raw - 1200 * sign, direction := dir,
                         resultNumber := (l.resultCount + 1) % 65536, valid := true } ∧
        t.correctionCount = min 65535 (l.correctionCount + 1)) ∧
    (¬corrects 1 .up → ¬corrects (-1) .down →
      t.p = raw ∧ t.octaveLength = 0 ∧ t.octaveDirection = .up ∧ t.correction = l.correction ∧
      t.correctionCount = l.correctionCount) ∧
    (let note := (t.p - ref + 50) / 100
     let count := if l.candidate = some note then l.confirmCount + 1 else 1
     if note = l.n ∨ |t.p - ref - 100 * l.n| ≤ 50 + c.hysteresis then
       t.n = l.n ∧ t.candidate = none ∧ t.confirmCount = 0 ∧ e.arrival = none
     else if c.confirmFrames ≤ count then
       t.n = note ∧ t.candidate = none ∧ t.confirmCount = 0 ∧ e.arrival = some note
     else t.n = l.n ∧ t.candidate = some note ∧ t.confirmCount = count ∧ e.arrival = none) ∧
    t.d = t.p - ref - 100 * t.n ∧ t.settings = l.settings ∧ t.chars = l.chars ∧ t.due = l.due

/-! ### Harmony pitch arithmetic -/

/-- Period to pitch (R27): P_raw is the nearest integer to 5700 + 1200·log2(19200/(11·Tp)), said without logarithms: twice P_raw
lies within 1 of 2400·log2 of the quotient. -/
def Obligations.RawPitchIsExactlyRounded : Prop :=
  ∀ tp : Nat, 512 ≤ tp → tp ≤ 12800 →
    2251 ≤ rawPitch tp ∧ rawPitch tp ≤ 7823 ∧
    2 ^ (2 * rawPitch tp - 1).toNat * (11 * tp) ^ 2400 < 2 ^ 11400 * 19200 ^ 2400 ∧
    2 ^ 11400 * 19200 ^ 2400 < 2 ^ (2 * rawPitch tp + 1).toNat * (11 * tp) ^ 2400

/-- Interval to ratio (R42): R is 65536·2^(Δ/1200) rounded half up, said without roots, and lies in 16384 to 262144; a voice
that computes writes the ratio of its clamped interval. -/
def Obligations.RatioIsExactlyRounded : Prop :=
  ∀ delta : Int, -2400 ≤ delta → delta ≤ 2400 →
    16384 ≤ ratioOf delta ∧ ratioOf delta ≤ 262144 ∧
    (2 * ratioOf delta - 1) ^ 1200 ≤ 2 ^ (20400 + delta).toNat ∧
    2 ^ (20400 + delta).toNat < (2 * ratioOf delta + 1) ^ 1200 ∧
    ∀ (v : Voice) (c : VoiceContext), (compute v c).delta = delta → (compute v c).ratio = ratioOf delta

/-- A SCALE step (R30, R31, R105), by counting: `c` is the note's distance above the nearest key member at or below it. The step
of k degrees lands `c` above a key member, with exactly |k| key members passed on the way.
A CHORD rank (R33): the k-th note above, or the |k|-th below, whose pitch class is in the set; N_cur is never counted. -/
def Obligations.ScaleAndChordStepsCountNotes : Prop :=
  (∀ (m : KeyMap) (n c k : Int), m.members.getLsbD m.tonic.val = true →
    let key := fun x : Int => m.members.getLsbD (x % 12).toNat = true
    0 ≤ c → key (n - c) → (∀ x, n - c < x → x ≤ n → ¬key x) →
    let landed := scaleNote m n k - c
    key landed ∧
    (0 ≤ k → ((Finset.Ioc (n - c) landed).filter key).card = k.toNat) ∧
    (k ≤ 0 → ((Finset.Ioc landed (n - c)).filter key).card = (-k).toNat)) ∧
  (∀ (set12 : PitchSet) (n k : Int), set12 ≠ 0 → 1 ≤ |k| → |k| ≤ 4 →
    let chord := fun x : Int => set12.getLsbD (x % 12).toNat = true
    let landed := chordNote set12 n k
    chord landed ∧
    (0 < k → n < landed ∧ ((Finset.Ioc n landed).filter chord).card = k.toNat) ∧
    (k < 0 → landed < n ∧ ((Finset.Ico landed n).filter chord).card = (-k).toNat))

/-- The voice computation (R28, R32, R34 to R43) on a legal template: the target note by rule, the follow term, the fold into the
range, the glide, the interval with its clamp and the level. While a frozen note stands it is the target note, and a CHORD voice
keeps its fallback flag (R36). That a rule kind which MODIFY VOICE changed during the freeze counts at once for the follow term
and for that flag is the model's choice (assumption 32). -/
def Obligations.VoiceComputationSteps : Prop :=
  ∀ (v : Voice) (c : VoiceContext), TemplateLegal v.template →
    let tp := v.template
    let w := compute v c
    let note := (targetNote v c).1
    let f := if tp.rule = .pinned then 0 else (max (-100) (min 100 c.d) * tp.follow + 64) / 128
    let unfolded := 100 * note + c.keyMap.ref + f + tp.detune
    (∀ z, v.frozen = some z → note = z ∧ w.fallbackUsed = (decide (tp.rule = .chord) && v.fallbackUsed)) ∧
    (v.frozen = none →
      (tp.rule = .scale → note = scaleNote c.keyMap c.n tp.operand ∧ w.fallbackUsed = false) ∧
      (tp.rule = .fixed → note = c.n + tp.operand ∧ w.fallbackUsed = false) ∧
      (tp.rule = .pinned → note = tp.operand ∧ w.fallbackUsed = false) ∧
      (tp.rule = .chord → c.chordSet = 0 → note = scaleNote c.keyMap c.n tp.fallback ∧ w.fallbackUsed = true) ∧
      (tp.rule = .chord → c.chordSet ≠ 0 → note = chordNote c.chordSet c.n tp.operand ∧ w.fallbackUsed = false)) ∧
    (∃ m : Int, w.t = unfolded + 1200 * m ∧ w.nt = note + 12 * m ∧
      100 * (tp.lo : Int) ≤ w.t ∧ w.t ≤ 100 * (tp.hi : Int) ∧
      (100 * (tp.lo : Int) ≤ unfolded → unfolded ≤ 100 * (tp.hi : Int) → m = 0) ∧
      (100 * (tp.hi : Int) < unfolded → 100 * (tp.hi : Int) - 1200 < w.t) ∧
      (unfolded < 100 * (tp.lo : Int) → w.t < 100 * (tp.lo : Int) + 1200)) ∧
    w.o = (if v.fresh = true ∨ tp.glide = 0 ∨ |w.t - v.o| ≤ 5 * (tp.glide : Int) then w.t
           else if v.o < w.t then v.o + 5 * tp.glide else v.o - 5 * tp.glide) ∧
    w.fresh = false ∧ w.delta = max (-2400) (min 2400 (w.o - c.p)) ∧
    (w.clamped = true ↔ w.o - c.p < -2400 ∨ 2400 < w.o - c.p) ∧ w.ratio = ratioOf w.delta ∧
    (w.level : Int) = (if v.level < v.levelTarget then min (v.levelTarget : Int) (v.level + 16 * tp.attack)
                       else max (v.levelTarget : Int) (v.level - 16 * tp.release)) ∧
    w.template = v.template ∧ w.state = v.state ∧ w.generation = v.generation ∧ w.owner = v.owner ∧
    w.frozen = v.frozen ∧ w.levelTarget = v.levelTarget

/-- The voices of a lane act at its result (R14, R51) by the table of section 3.2.1: LOCKED (R52), HOLD (R53), REACQUIRE (R54) and
SEARCH (R55), each with its state after and level target, with steps 1 to 7 (`VoiceComputationSteps`), step 7 alone (R43) or none,
the freeze capture of R51 part 3 (R57) and the release completion (R56). They hand their channels the next values (R157): the
source lane waits with them for the next ramp, which is the model's reading where R157 has it written at the hand-over
(assumption 25). A freed voice leaves both lists, keeps its slot's generation and leaves a next gain of 0, and VOICE_FREED is
raised once for each. Which freed slot is its subject when several are freed is left open (assumption 3). -/
def Obligations.VoicesActAtLaneResult : Prop :=
  ∀ (s t : State) (k : LaneId) (r : LaneResult), s.inReset = false → s.clock.state = .present → s.lanes[k].due = true →
    s.lanes[k].settings.on = true → TrackingLegal s.lanes[k] → exec (.laneResult k r) s = .next t →
    let c : VoiceContext := { tracking := t.lanes[k].tracking, p := t.lanes[k].p, n := t.lanes[k].n, d := t.lanes[k].d,
                              freeze := s.lanes[k].settings.freeze, keyMap := s.keyMap, chordSet := chordPitchSet s.chord }
    let runs : Nat → Voice → Voice := fun target v =>
      let w := compute { v with levelTarget := target } c
      { w with frozen := if c.freeze = true ∧ w.frozen = none then some w.nt else w.frozen }
    let fades : Voice → Voice := fun v => { v with levelTarget := 0, level := v.level - 16 * v.template.release }
    let silent : Voice → Voice := fun v => { v with level := 0, levelTarget := 0 }
    let completes : Voice → Option Voice := fun v => if v.level = 0 then none else some v
    let outcome : Voice → Option Voice := fun v =>
      let full := v.template.level
      match c.tracking, v.state with
      | .locked, .acquiring => some (runs full { v with state := .active, fresh := true })
      | .locked, .active => some (runs full v)
      | .locked, .holding => some (runs full { v with state := .active })
      | .locked, .releasing => completes (runs 0 v)
      | .hold, .acquiring => some v
      | .hold, .active => some (runs full { v with state := .holding })
      | .hold, .holding => some (runs full v)
      | .hold, .releasing => completes (runs 0 v)
      | .reacquire, .acquiring => some (fades v)
      | .reacquire, .active => some (fades { v with state := .holding })
      | .reacquire, .holding => some (fades v)
      | .reacquire, .releasing => completes (fades v)
      | .search, .acquiring => some (silent v)
      | .search, .active => some { silent v with state := .acquiring, frozen := none, fresh := false }
      | .search, .holding => some { silent v with state := .acquiring, frozen := none, fresh := false }
      | .search, .releasing => none
      | _, _ => some v
    let acts := fun i : Slot => s.voices[i].template.lane = k ∧ s.voices[i].state ≠ .free ∧ s.voices[i].state ≠ .pending
    let freed := fun i : Slot => acts i ∧ (outcome s.voices[i]).isNone = true
    c.tracking ≠ .off ∧
    (∀ i : Slot, ¬acts i → t.voices[i] = s.voices[i] ∧ t.channels[i] = s.channels[i]) ∧
    (∀ i : Slot, acts i → ∀ v, outcome s.voices[i] = some v →
      t.voices[i] = v ∧
      t.channels[i] = { s.channels[i] with nextLane := k, nextGain := if v.state = .acquiring then 0 else v.level,
                                            nextRatio := v.ratio, nextPan := v.template.pan }) ∧
    (∀ i : Slot, freed i → t.voices[i].state = .free ∧ t.voices[i].generation = s.voices[i].generation ∧
      t.channels[i] = { s.channels[i] with nextGain := 0 } ∧ i ∉ t.ageList ∧ i ∉ t.releaseList) ∧
    (∀ i : Slot, ¬freed i → (i ∈ t.ageList ↔ i ∈ s.ageList) ∧ (i ∈ t.releaseList ↔ i ∈ s.releaseList)) ∧
    t.ageList.Sublist s.ageList ∧ t.releaseList.Sublist s.releaseList ∧
    t.notices[(6 : Fin 17)].count =
      (if ∃ i, freed i then min 255 (s.notices[(6 : Fin 17)].count +
        ((List.finRange 16).filter fun i => decide (acts i) && (outcome s.voices[i]).isNone).length)
       else s.notices[(6 : Fin 17)].count)

/-! ### The frame boundary and the change queue's entries -/

/-- FRAME_BOUNDARY (R96, R131, R144, R158, R167): the queue's entries are applied oldest first and the queue is emptied; the armed
cue counts down; every channel not in CUTTING begins its ramp; every lane's analysis begins; the frame counter goes up; then the
first sample of the next frame is made, of which every channel, mixer, delay line and output slot is said (R155, R156, R162). The
model's choices: the row lets the rest of the frame's edges go by first (assumption 14); where R167 leaves an order open, the
application comes before the countdown, and the other order is the CUE_EXPIRED row (assumption 9); every lane's analysis begins,
whether its result of the frame before has completed or not (assumption 19); a channel takes the lane handed over with its ramp
(assumption 25); a new voice's ratio ramp starts at the old end ratio, as R158 has it (assumption 33). -/
def Obligations.FrameBoundaryActs : Prop :=
  ∀ s : State, s.inReset = false → s.clock.state = .present → s.clock.period ≤ 255 →
    let edges := 255 - s.clock.period
    let before := s.runEdges edges
    let w := s.queue.foldl State.applyEntry { before with queue := [], link := { s.link with headWaits := false } }
    let counts := s.clock.countdownTaken = false ∧ s.cue.armed = true ∧ 0 < s.cue.timeout
    let expires := counts ∧ s.cue.remaining ≤ 1
    PeriodsPass .present edges s before.channels before.mixers before.audio ∧
    ∃ t, exec .frameBoundary s = .next t ∧
      t.voices = w.voices ∧ t.ageList = w.ageList ∧ t.releaseList = w.releaseList ∧ t.keyMap = w.keyMap ∧
      t.currentScene = w.currentScene ∧ (∀ k : LaneId, t.lanes[k] = { w.lanes[k] with due := true }) ∧
      t.queue = (if expires ∧ s.cue.action = .take then [.take s.cue.scene] else []) ∧
      t.cue = (if expires then { s.cue with armed := false, remaining := 0 }
               else if counts then { s.cue with remaining := s.cue.remaining - 1 } else s.cue) ∧
      t.link = { s.link with headWaits := false } ∧
      t.clock = { s.clock with period := 0, gap := 0, frame := (s.clock.frame + 1) % 65536, countdownTaken := false } ∧
      (∀ kind : Fin 17, kind ≠ 12 → t.notices[kind] = w.notices[kind]) ∧
      t.notices[(12 : Fin 17)] = (if expires then { w.notices[(12 : Fin 17)] with
          pending := true, count := min 255 (w.notices[(12 : Fin 17)].count + 1), subject := s.cue.scene.val }
        else w.notices[(12 : Fin 17)]) ∧
      (∃ cs : Vector Channel 16,
        (∀ i : Slot, let c := w.channels[i]
          let ramp := { c with lane := c.nextLane, startGain := c.endGain, startRatio := c.endRatio, startPan := c.endPan
                               endGain := c.nextGain, endRatio := c.nextRatio, endPan := c.nextPan, position := 0 }
          cs[i] = if c.state = .cutting then c
            else if c.endGain = 0 ∧ c.nextGain = 0 then { ramp with state := .silent, phase := 0, y := 0 }
            else { ramp with state := .playing, phase := if c.state = .playing then c.phase else 0 }) ∧
        PeriodPasses .present { w with channels := cs } t.channels t.mixers t.audio) ∧
      SlotsCarryMixes t.channels t.mixers (fun k => w.audio.delay[k].headD 0) t.audio.out ∧
      w.audio = before.audio ∧ w.sampleNo = s.sampleNo + edges ∧
      t.scenes = s.scenes ∧ t.setlist = s.setlist ∧ t.chord = s.chord ∧ t.pedals = s.pedals ∧ t.port = s.port ∧
      t.inReset = s.inReset ∧ t.pending = s.pending ∧ t.sampleNo = s.sampleNo + edges + 1

/-- The application of CREATE, MODIFY, RETIRE and KEY_MAP entries (R97, R98): a stale handle drops the entry with
STAGE_DROPPED (R97); else the voice is activated (R50), the field is written (R65), or the voice is retired (R67) or killed
(R59, R68, R159); a KEY_MAP entry replaces the key map (R101).
The application of a RETIRE_LANE entry (R69): every voice present of the lane whose owner passes the filter is retired, the
others are as they were, and voices released together join the release list in the order of the age list. That a CREATE entry
on an OFF lane, which no run reaches, activates to ACQUIRING is the model's choice (assumption 29). -/
def Obligations.EntriesApplied : Prop :=
  (∀ (s : State) (h : Handle),
    let i := h.slot
    let v := s.voices[i]
    let raised : Fin 17 → State → State := fun kind t => { t with notices := t.notices.set kind { t.notices[kind] with
      pending := true, count := min 255 (t.notices[kind].count + 1), subject := i.val } }
    let put : Voice → State := fun w => { s with voices := s.voices.set i w }
    let field : Modification → Template → Prop := fun m t => s.applyEntry (.modify h m) = put { v with template := t }
    let t := v.template
    (v.state = .free ∨ v.generation ≠ h.generation →
      s.applyEntry (.create h) = raised 7 s ∧ (∀ m, s.applyEntry (.modify h m) = raised 7 s) ∧
      (∀ mode, s.applyEntry (.retire h mode) = raised 7 s)) ∧
    (v.state ≠ .free → v.generation = h.generation →
      (v.state = .pending → s.applyEntry (.create h) =
        (if s.lanes[t.lane].tracking = .locked ∨ s.lanes[t.lane].tracking = .hold then
          put { v with state := .active, fresh := true } else put { v with state := .acquiring })) ∧
      (∀ kind z, field (.rule kind z) { t with rule := kind, operand := z }) ∧
      (∀ z, field (.fallback z) { t with fallback := z }) ∧ (∀ n, field (.follow n) { t with follow := n }) ∧
      (∀ z, field (.detune z) { t with detune := z }) ∧ (∀ lo hi, field (.range lo hi) { t with lo := lo, hi := hi }) ∧
      (∀ n, field (.glide n) { t with glide := n }) ∧ (∀ n, field (.pan n) { t with pan := n }) ∧
      (∀ g, field (.group g) { t with group := g }) ∧ (∀ n, field (.attack n) { t with attack := n }) ∧
      (∀ n, field (.release n) { t with release := n }) ∧
      (∀ n, (v.state ≠ .releasing → field (.level n) { t with level := n }) ∧
        (v.state = .releasing → s.applyEntry (.modify h (.level n)) = s)) ∧
      (v.state = .acquiring ∨ v.state = .active ∨ v.state = .holding → s.applyEntry (.retire h .release) =
        { put { v with state := .releasing, levelTarget := 0 } with releaseList := s.releaseList ++ [i] }) ∧
      (v.state = .releasing → s.applyEntry (.retire h .release) = s) ∧
      (∃ freed : Voice, freed.state = .free ∧ freed.generation = v.generation ∧
        let gone := { put freed with ageList := s.ageList.filter (· ≠ i), releaseList := s.releaseList.filter (· ≠ i) }
        (v.state = .pending → s.applyEntry (.retire h .release) = raised 6 gone) ∧
        s.applyEntry (.retire h .kill) = raised 6 { gone with channels := s.channels.set i { s.channels[i] with
          state := .cutting, startGain := channelGain s.channels[i], endGain := 0,
          startRatio := channelRatio s.channels[i], endRatio := channelRatio s.channels[i],
          startPan := channelPan s.channels[i], endPan := channelPan s.channels[i], nextGain := 0, position := 0 } })) ∧
    (∀ k : KeyMap, s.applyEntry (.keyMap k) = { s with keyMap := k })) ∧
  (∀ (s : State) (k : LaneId) (filter : OwnerFilter), PoolLaw s →
    let passes := fun v : Voice => v.template.lane = k ∧ v.state ≠ .free ∧
      (filter = .all ∨ (filter = .control ∧ v.owner = .control) ∨ (filter = .scene ∧ v.owner = .scene))
    let killed := s.applyEntry (.retireLane k .kill filter)
    let t := s.applyEntry (.retireLane k .release filter)
    (∀ i : Slot, ¬passes s.voices[i] → killed.voices[i] = s.voices[i] ∧ t.voices[i] = s.voices[i]) ∧
    (∀ i : Slot, passes s.voices[i] →
      killed.voices[i].state = .free ∧ killed.channels[i].state = .cutting ∧ i ∉ killed.ageList ∧
      i ∉ killed.releaseList ∧
      (s.voices[i].state = .pending → t.voices[i].state = .free ∧ i ∉ t.ageList) ∧
      (s.voices[i].state = .releasing → t.voices[i] = s.voices[i]) ∧
      (s.voices[i].state ≠ .pending → s.voices[i].state ≠ .releasing →
        t.voices[i] = { s.voices[i] with state := .releasing, levelTarget := 0 })) ∧
    t.releaseList = s.releaseList ++ s.ageList.filter fun i => decide (passes s.voices[i]) &&
      decide (s.voices[i].state ≠ .pending) && decide (s.voices[i].state ≠ .releasing))

/-- The application of a LANE_SETTINGS entry (R2, R57, R58, R100, R161): mode, stored settings, freeze, and the mixer's
targets. That a new target starts a ramp from the gain's present value, and that P, N_cur and D stand at 0 when invalid, are the
model's readings (assumptions 7 and 28). -/
def Obligations.LaneSettingsApplied : Prop :=
  ∀ (s : State) (k : LaneId) (st : LaneSettings), PoolLaw s →
    let l := s.lanes[k]
    let t := s.applyEntry (.laneSettings k st)
    t.lanes = s.lanes.set k
      (if l.settings.on = st.on then { l with settings := st }
       else { l with settings := st, tracking := if st.on then .search else .off, p := 0, n := 0, d := 0,
                     candidate := none, confirmCount := 0, octaveLength := 0, octaveDirection := .up, counter := 0 }) ∧
    (∀ i : Slot, s.voices[i].template.lane ≠ k → t.voices[i] = s.voices[i] ∧ t.channels[i] = s.channels[i]) ∧
    (∀ i : Slot, s.voices[i].template.lane = k → s.voices[i].state ≠ .free →
      let v := s.voices[i]
      (l.settings.on = true → st.on = false →
        t.voices[i].state = .free ∧ t.channels[i].state = .cutting ∧ i ∉ t.ageList ∧ i ∉ t.releaseList) ∧
      (¬(l.settings.on = true ∧ st.on = false) →
        t.voices[i] = { v with frozen :=
          if l.settings.freeze = false ∧ st.freeze = true ∧ (v.state = .active ∨ v.state = .holding ∨ v.state = .releasing) ∧
              v.fresh = false ∧ v.frozen = none then some v.nt
          else if l.settings.freeze = true ∧ st.freeze = false then none else v.frozen } ∧
        t.channels[i] = s.channels[i])) ∧
    (let m := s.mixers[k]
     let dry := if st.on then st.dry else 0
     let bypass := if st.on && st.bypass then 4096 else 0
     t.mixers = s.mixers.set k
       { dry := if rampValue m.dry = dry ∧ m.dry.target = dry then m.dry
                else { start := rampValue m.dry, target := dry, position := 0 }
         bypass := if rampValue m.bypass = bypass ∧ m.bypass.target = bypass then m.bypass
                   else { start := rampValue m.bypass, target := bypass, position := 0 } }) ∧
    t.keyMap = s.keyMap ∧ t.queue = s.queue ∧ t.cue = s.cue ∧ t.link = s.link ∧ t.chord = s.chord ∧ t.scenes = s.scenes ∧
    t.setlist = s.setlist ∧ t.clock = s.clock ∧ t.port = s.port ∧ t.pedals = s.pedals

/-- The application of a TAKE entry (R49, R50, R83, R115 to R119): an EMPTY scene fails with TAKE_FAILED and changes nothing else. A
LOADED one, in its six steps: the key map; the lanes, each as one LANE_SETTINGS change with freeze off (`m`); the outgoing voices
retired in RELEASE mode, in the order of the age list (`u 0`), where KEEP_CONTROL leaves CONTROL voices as they are; the templates
one after another, from `u j` to `u (j + 1)`: a template is skipped while a voice that is not RELEASING holds its tag on its lane
or the arbiter gives no slot, and is placed otherwise, a RELEASING holder killed before; then the placed voices are activated
together, SCENE_SHORT is raised with the number skipped if it is above 0, and SCENE_TAKEN with the scene. That a RELEASING holder
stays killed when the arbiter then gives no slot is the model's reading (assumption 30). -/
def Obligations.TakeApplied : Prop :=
  ∀ (s : State) (n : SceneId),
    (s.scenes[n] = none → s.applyEntry (.take n) = { s with notices := s.notices.set 10 { s.notices[10] with
      pending := true, count := min 255 (s.notices[10].count + 1), subject := n.val } }) ∧
    (∀ sc, s.scenes[n] = some sc → PoolLaw s → TagLaw s → SceneLegal sc →
      let settings : LaneId → LaneSettings := fun k =>
        { on := sc.lanes[k].on, bypass := sc.lanes[k].bypass, freeze := false, dry := sc.lanes[k].dry }
      ∀ t m : State, t = s.applyEntry (.take n) →
      m = [0, 1, 2, 3].foldl (fun v (k : LaneId) => v.applyEntry (.laneSettings k (settings k))) { s with keyMap := sc.keyMap } →
      let outgoing : Slot → Prop := fun i => m.voices[i].state ≠ .free ∧ m.voices[i].state ≠ .releasing ∧
        (m.voices[i].owner = .scene ∨ sc.takeMode = .clearAll)
      let reserved : Slot → Prop := fun i => outgoing i ∧ m.voices[i].state = .pending
      (∀ k : LaneId, t.lanes[k].settings = settings k ∧ t.lanes[k].chars = s.lanes[k].chars ∧
        (s.lanes[k].settings.on = sc.lanes[k].on → t.lanes[k].tracking = s.lanes[k].tracking)) ∧
      ∃ (u : Nat → State) (slots : List (Option Slot)), slots.length = sc.templates.length ∧
        (∃ (vs : Vector Voice 16) (ns : Vector Notice 17), u 0 =
            { m with
              voices := vs, notices := ns
              ageList := m.ageList.filter fun i => decide (¬reserved i)
              releaseList := m.releaseList ++ m.ageList.filter fun i => decide (outgoing i) && decide (¬reserved i) } ∧
          (∀ i : Slot, (¬outgoing i → vs[i] = m.voices[i]) ∧
            (reserved i → vs[i].state = .free ∧ vs[i].generation = m.voices[i].generation) ∧
            (outgoing i → ¬reserved i → vs[i] = { m.voices[i] with state := .releasing, levelTarget := 0 })) ∧
          (∀ kind : Fin 17, kind ≠ 6 ∨ (∀ i, ¬reserved i) → ns[kind] = m.notices[kind]) ∧
          ((∃ i, reserved i) → ns[(6 : Fin 17)].count = min 255 (m.notices[(6 : Fin 17)].count +
            (m.ageList.filter fun i => decide (reserved i)).length))) ∧
        (∀ (j : Nat) (h : j < sc.templates.length),
          let tpl := sc.templates[j]
          let holds : Slot → Prop := fun i => (u j).voices[i].state ≠ .free ∧ (u j).voices[i].template.lane = tpl.lane ∧
            (u j).voices[i].template.tag = tpl.tag
          ((∃ i, holds i ∧ (u j).voices[i].state ≠ .releasing) → u (j + 1) = u j ∧ slots[j]? = some none) ∧
          (∀ v : State, (∀ i, holds i → (u j).voices[i].state = .releasing) → ((∀ i, ¬holds i) → v = u j) →
            (∀ i, holds i → v = (u j).applyEntry (.retire { slot := i, generation := (u j).voices[i].generation } .kill)) →
            (obtainSlot v = none → u (j + 1) = v ∧ slots[j]? = some none) ∧
            (∀ i w, obtainSlot v = some (i, w) → slots[j]? = some (some i) ∧ u (j + 1) =
              { w with
                voices := w.voices.set i
                  { template := tpl, state := .pending, generation := w.voices[i].generation + 1, owner := .scene, fresh := false
                    frozen := none, nt := 0, t := 0, o := 0, delta := 0, ratio := 65536, clamped := false
                    fallbackUsed := false, levelTarget := 0, level := 0 }
                ageList := w.ageList ++ [i] }))) ∧
        (∀ (z : State) (skipped : Nat), z = u sc.templates.length → skipped = slots.count none →
         ∃ (vs : Vector Voice 16) (ns : Vector Notice 17),
          t = { z with voices := vs, notices := ns, currentScene := some n } ∧
          (∀ i : Slot, (some i ∉ slots → vs[i] = z.voices[i]) ∧
            (some i ∈ slots → vs[i] =
              if m.lanes[z.voices[i].template.lane].tracking = .locked ∨ m.lanes[z.voices[i].template.lane].tracking = .hold then
                { z.voices[i] with state := .active, fresh := true } else { z.voices[i] with state := .acquiring })) ∧
          (∀ j, (h : j < sc.templates.length) → ∀ i, slots[j]? = some (some i) →
            z.voices[i].template = sc.templates[j] ∧ z.voices[i].owner = .scene ∧ z.voices[i].state = .pending) ∧
          (∀ kind : Fin 17, kind ≠ 8 → kind ≠ 9 → ns[kind] = z.notices[kind]) ∧
          ns[(8 : Fin 17)] = { z.notices[(8 : Fin 17)] with
            pending := true, count := min 255 (z.notices[(8 : Fin 17)].count + 1), subject := n.val } ∧
          ns[(9 : Fin 17)] = (if skipped = 0 then z.notices[(9 : Fin 17)] else { z.notices[(9 : Fin 17)] with
            pending := true, count := min 255 (z.notices[(9 : Fin 17)].count + 1), subject := skipped })) ∧
        t.keyMap = sc.keyMap ∧ t.mixers = m.mixers ∧ t.queue = s.queue ∧ t.cue = s.cue ∧ t.link = s.link ∧ t.chord = s.chord ∧
        t.scenes = s.scenes ∧ t.setlist = s.setlist ∧ t.clock = s.clock ∧ t.port = s.port ∧ t.pedals = s.pedals)

/-- CUE_EXPIRED (R131): the countdown of the boundary at hand, taken before the application as the first of its two orders gives.
The model's choices: the edges before the boundary go by first, every channel, mixer and delay line with them (assumption 14), and
the rest of the boundary is left to the FRAME_BOUNDARY that follows (assumption 9). -/
def Obligations.CueExpiresBeforeApplication : Prop :=
  ∀ s : State, s.inReset = false → s.clock.state = .present → s.clock.period ≤ 255 → s.clock.countdownTaken = false →
    s.cue.armed = true → 0 < s.cue.timeout → s.cue.remaining ≤ 1 →
    let edges := 255 - s.clock.period
    let w := s.runEdges edges
    PeriodsPass .present edges s w.channels w.mixers w.audio ∧
    exec .cueExpired s = .next
      { s with
        channels := w.channels, mixers := w.mixers, audio := w.audio, sampleNo := s.sampleNo + edges
        queue := if s.cue.action = .take then s.queue ++ [.take s.cue.scene] else s.queue
        cue := { s.cue with armed := false, remaining := 0 }
        link := { s.link with headWaits := false }
        clock := { s.clock with period := 255, gap := if s.clock.period = 255 then s.clock.gap else 0
                                countdownTaken := true }
        notices := s.notices.set 12 { s.notices[12] with
          pending := true, count := min 255 (s.notices[12].count + 1), subject := s.cue.scene.val } }

/-! ### Rendering and mixing -/

/-- CUT_FADE_END (R159): the rest of the fade's samples are made and the channel is SILENT; the other channels, the mixers and the
delay lines go on with it. The samples before the end are the word-clock edges that no row names (assumption 14); a fade that a
boundary would interrupt ends in a later step. -/
def Obligations.CutFadeEnds : Prop :=
  ∀ (s : State) (i : Slot), s.inReset = false → s.channels[i].state = .cutting → s.channels[i].position < 256 →
    let n := 256 - s.channels[i].position
    let w := s.runEdges n
    (s.clock.state = .present ∧ s.clock.period + n ≤ 255) ∨ (s.clock.state = .settling ∧ s.clock.settle + n ≤ 511) →
    PeriodsPass s.clock.state n s w.channels w.mixers w.audio ∧
    w.channels[i] = { s.channels[i] with state := .silent, position := 256, phase := 0, y := 0 } ∧
      exec (.cutFadeEnd i) s = .next
        { s with
          channels := w.channels, mixers := w.mixers, audio := w.audio, sampleNo := s.sampleNo + n
          clock := if s.clock.state = .present then { s.clock with period := s.clock.period + n, gap := 0 }
            else { s.clock with settle := s.clock.settle + n, gap := 0 } }

/-- One output sample (R156, R162): a ramp's value at sample j, and one side of a lane's mix, an exact rational rounded once
toward zero and saturated. -/
def Obligations.MixIsExactAndRoundedOnce : Prop :=
  (∀ a b j : Nat, j ≤ 256 → (rampAt a b j : Int) = a + (((b : Int) - a) * j).tdiv 256) ∧
  (∀ (beta dry : Nat) (x : Int) (terms : List (Int × Nat × Nat)),
    let q : ℚ := beta * x / 4096 + (4096 - beta) / 4096 *
      (dry * x / 4096 + (terms.map fun t => (t.1 : ℚ) * t.2.1 / 4096 * t.2.2 / 127).sum)
    (mixSide beta dry x terms).toInt = max (-8388608) (min 8388607 (if 0 ≤ q then ⌊q⌋ else ⌈q⌉)))

/-- The output slots (R155, R156, R160, R162): in a word-clock period while PRESENT, slots 2k and 2k + 1 carry lane k's mix of the
sample taken in 256 periods before and of the channels of lane k whose gain is above 0, in their first 24 bit times, and 0 in the
last 8; a channel's output is the shifter's for its kept phase, its ratio at that sample and that delayed input; an input slot's
last 8 bits are ignored. That a step on an empty queue is such a period is the model's choice (assumption 14); the bits taken in
and the shifter's output and phase are free values (assumptions 1 and 2). -/
def Obligations.OutputSlotsCarryLaneMixes : Prop :=
  ∀ (s t : State), s.pending = [] → s.inReset = false → s.clock.state = .present → s.clock.period < 255 →
    (∀ k : LaneId, s.audio.delay[k].length = 256) → (∀ i : Slot, ChannelLegal s.channels[i]) → step s = .next t →
    ∀ k : LaneId,
      let x := s.audio.delay[k].getD 0 0
      let heard := (List.finRange 16).filter fun i : Slot => t.channels[i].lane = k ∧ 0 < channelGain t.channels[i]
      let term := fun (w : Nat) (i : Slot) =>
        ((Config.shifterOutput s.channels[i].phase (channelRatio t.channels[i]) x).toInt, channelGain t.channels[i], w)
      t.audio.out[(⟨2 * k.val, by omega⟩ : Fin 8)] =
        mixSide (rampValue t.mixers[k].bypass) (rampValue t.mixers[k].dry) x.toInt
          (heard.map fun i => term (127 - channelPan t.channels[i]) i) ++ (0 : BitVec 8) ∧
      t.audio.out[(⟨2 * k.val + 1, by omega⟩ : Fin 8)] =
        mixSide (rampValue t.mixers[k].bypass) (rampValue t.mixers[k].dry) x.toInt
          (heard.map fun i => term (channelPan t.channels[i]) i) ++ (0 : BitVec 8) ∧
      t.audio.delay[k] =
        s.audio.delay[k].drop 1 ++ [(Config.tdmInput s.sampleNo (k.castLE (by omega))).extractLsb' 8 24]

/-! ### Clock loss and return, resets -/

/-- CLOCK_LOST (R168), SETTLING_START and SETTLING_ABORT (R164, R169).
CLOCK_BACK (R24, R61, R165, R170): the entry to PRESENT with its first sample. That the row lets the settling's edges before the
512th go by first, every channel, mixer and delay line with them, is the model's choice (assumption 14). That a voice in
ACQUIRING is not fresh, that the settle count stays 512 while PRESENT, the gap timer's two values, and the zeros of an
invalid pitch are the model's readings (assumptions 21, 23, 20 and 28). -/
def Obligations.ClockLossAndReturn : Prop :=
  (∀ s : State, s.inReset = false →
    (s.clock.state = .present → ∃ ls : Vector Lane 4, (∀ k : LaneId, ls[k] = { s.lanes[k] with due := false }) ∧
      exec .clockLost s = .next
        { s with
          lanes := ls
          audio := { s.audio with out := Vector.replicate 8 0 }
          clock := { s.clock with state := .lost, gap := 1024, settle := 0, period := 0, countdownTaken := false }
          notices := s.notices.set 1 { s.notices[1] with
            pending := true, count := min 255 (s.notices[1].count + 1), subject := 0 } }) ∧
    (s.clock.state = .lost → ∃ cs ms au, PeriodPasses .settling s cs ms au ∧ exec .settlingStart s = .next
        { s with channels := cs, mixers := ms, audio := au, sampleNo := s.sampleNo + 1
                 clock := { s.clock with state := .settling, settle := 1, gap := 0 } }) ∧
    (s.clock.state = .settling → exec .settlingAbort s = .next
      { s with clock := { s.clock with state := .lost, settle := 0, gap := 1024 } })) ∧
  (∀ s : State, s.inReset = false → s.clock.state = .settling → s.clock.settle ≤ 511 →
    let edges := 511 - s.clock.settle
    let w := s.runEdges edges
    PeriodsPass .settling edges s w.channels w.mixers w.audio ∧
    ∃ t, exec .clockBack s = .next t ∧
      t.clock = { s.clock with state := .present, gap := 0, settle := 512, period := 0, frame := 0 } ∧
      (∀ k : LaneId, t.lanes[k] = if s.lanes[k].settings.on = true then
          { s.lanes[k] with tracking := .search, p := 0, n := 0, d := 0, candidate := none, confirmCount := 0,
                            octaveLength := 0, octaveDirection := .up, counter := 0 }
        else s.lanes[k]) ∧
      (∀ i : Slot, let v := s.voices[i]
        (v.state = .free ∨ v.state = .pending ∨ v.state = .acquiring → t.voices[i] = v) ∧
        (v.state = .active ∨ v.state = .holding → t.voices[i] =
          { v with state := .acquiring, level := 0, levelTarget := 0, frozen := none, fresh := false }) ∧
        (v.state = .releasing → t.voices[i].state = .free ∧ t.voices[i].generation = v.generation)) ∧
      t.ageList = s.ageList.filter (fun i => decide (s.voices[i].state ≠ .releasing)) ∧
      t.releaseList = s.releaseList.filter (fun i => decide (s.voices[i].state ≠ .releasing)) ∧
      (∀ i : Slot, t.channels[i] = { w.channels[i] with
        state := .silent, startGain := 0, endGain := 0, nextGain := 0, position := 0, phase := 0, y := 0 }) ∧
      (∀ k : LaneId, t.audio.delay[k] = w.audio.delay[k].drop 1 ++
        [(Config.tdmInput (s.sampleNo + edges) (k.castLE (by omega))).extractLsb' 8 24]) ∧
      SlotsCarryMixes t.channels t.mixers (fun k => w.audio.delay[k].headD 0) t.audio.out ∧
      t.sampleNo = s.sampleNo + edges + 1 ∧
      (∀ k : LaneId, let st := s.lanes[k].settings
        let dry := if st.on then st.dry else 0
        let bypass := if st.on && st.bypass then 4096 else 0
        t.mixers[k].dry = { start := 0, target := dry, position := if dry = 0 then 256 else 1 } ∧
        t.mixers[k].bypass = { start := 0, target := bypass, position := if bypass = 0 then 256 else 1 }) ∧
      t.notices[(2 : Fin 17)] = { s.notices[(2 : Fin 17)] with
        pending := true, count := min 255 (s.notices[(2 : Fin 17)].count + 1), subject := 0 } ∧
      (∀ kind : Fin 17, kind ≠ 2 → kind ≠ 6 → t.notices[kind] = s.notices[kind]) ∧
      t.queue = s.queue ∧ t.cue = s.cue ∧ t.setlist = s.setlist ∧ t.keyMap = s.keyMap ∧ t.scenes = s.scenes ∧
      t.chord = s.chord ∧ t.link = s.link ∧ t.pedals = s.pedals ∧ t.port = s.port ∧ t.currentScene = s.currentScene ∧
      t.inReset = false ∧ t.pending = s.pending)

/-- POWER_ON, RESET_PIN and SUPPLY_BELOW_THRESHOLD (R172, R174, and each block's hard-reset rule): a hard reset lasts while the
supply is below threshold or RESET_N is low, with the pins as R172 has them and no frame taken, and ends when its source ends,
where every block has its hard-reset values and RESTARTED is raised with the cause: POWER_ON also when RESET_N was still low as the
supply came up. That POWER_ON may come without a supply below threshold before it, and that the row RESET_PIN says by its operand
whether RESET_N falls or rises, are the model's choices (assumption 17); that the records keep what they held while the reset
lasts, and that no row but these three does anything then, is its reading (assumption 26); so are the pedal lines read open in
`State.reset` (assumption 5), the owner of a FREE slot (assumption 11) and the zeros of an invalid pitch (assumption 28). -/
def Obligations.HardResets : Prop :=
  let leaves : State → ResetCause → Nat → Vector Bool 4 → Prop := fun t cause code closed =>
    (∀ k : LaneId, t.lanes[k] =
      { settings := { on := false, bypass := false, freeze := false, dry := 4096 }, tracking := .off, p := 0, n := 0, d := 0,
        candidate := none, confirmCount := 0, octaveLength := 0, octaveDirection := .up, counter := 0, resultCount := 0,
        lastConfidence := 0, lastClass := .none,
        correction := { raw := 0, corrected := 0, direction := .up, resultNumber := 0, valid := false },
        correctionCount := 0, due := false,
        chars := { lowLimit := 2251, highLimit := 7823, threshold := 96, hysteresis := 15, confirmFrames := 2,
                   octaveWindow := 60, octavePersist := 3, holdFrames := 24, reacquireFrames := 48 } }) ∧
    (∀ i : Slot, t.voices[i] =
      { template := { tag := 0, lane := 0, rule := .scale, operand := 0, fallback := 0, follow := 0, detune := 0, lo := 0
                      hi := 0, glide := 0, level := 0, pan := 0, group := .foreground, attack := 0, release := 0 }
        state := .free, generation := 0, owner := .control, fresh := false, frozen := none, nt := 0, t := 0, o := 0, delta := 0
        ratio := 65536, clamped := false, fallbackUsed := false, levelTarget := 0, level := 0 }) ∧
    (∀ i : Slot, t.channels[i] =
      { state := .silent, lane := 0, startGain := 0, endGain := 0, startRatio := 65536, endRatio := 65536, startPan := 0,
        endPan := 0, nextGain := 0, nextRatio := 65536, nextPan := 0, nextLane := 0, position := 0, phase := 0, y := 0 }) ∧
    t.ageList = [] ∧ t.releaseList = [] ∧ t.queue = [] ∧
    t.keyMap = { tonic := 0, members := 0xAB5, ref := 0 } ∧ (∀ n : SceneId, t.scenes[n] = none) ∧ t.currentScene = none ∧
    t.setlist = { entries := [], position := 0, wrap := false } ∧
    t.cue = { armed := false, scene := 0, lane := 0, matchSet := 0, timeout := 0, action := .drop, remaining := 0 } ∧
    t.link = { line := .waitHigh, partialBytes := [], fifo := [], headWaits := false, hold := false,
               faults := { stray := 0, framing := 0, check := 0, content := 0, overrun := 0 } } ∧
    t.chord = { entries := [], latch := false } ∧
    (∀ k : LaneId, rampValue t.mixers[k].dry = 0 ∧ t.mixers[k].dry.target = 0 ∧ rampValue t.mixers[k].bypass = 0 ∧
      t.mixers[k].bypass.target = 0 ∧ t.audio.delay[k] = List.replicate 256 0) ∧
    t.audio.out = Vector.replicate 8 0 ∧
    t.clock = { state := .lost, gap := 0, settle := 0, period := 0, frame := 0, cause := cause, countdownTaken := false } ∧
    (∀ k : Fin 17, t.notices[k] =
      { pending := k.val = 0, count := if k.val = 0 then 1 else 0, subject := if k.val = 0 then code else 0, enabled := true,
        urgent := k.val ∈ [0, 1, 9, 10, 16] }) ∧
    (∀ p : PedalId, t.pedals[p] = { binding := .none, closed := closed[p], differing := false }) ∧
    t.port = { executing := none, resetActMade := false, resultReady := false, overrun := false, framing := false,
               result := { completion := .none, bytes := [] },
               refusal := { kind := 0, code := 0, command := 0, detail := 0 }, sdo := [] } ∧
    t.hold = .running
  leaves State.reset .powerOn 1 (Vector.replicate 4 false) ∧
  (∀ (s : State) (closed : Vector Bool 4),
    let lasts : Hold → State := fun hold =>
      { s with hold := hold, port := { s.port with sdo := [] }, link := { s.link with hold := false }
               audio := { s.audio with out := Vector.replicate 8 0 } }
    let ends : Instr → ResetCause → Nat → Prop := fun i cause code =>
      ∃ t, exec i s = .next t ∧ leaves t cause code closed ∧ t.pending = s.pending
    (s.inReset = true ↔ s.hold ≠ .running) ∧
    (s.hold = .running →
      ends (.powerOn closed) .powerOn 1 ∧ exec (.resetPin .falls) s = .next (lasts .pin) ∧
      exec (.resetPin (.rises closed)) s = .next s ∧ exec .supplyBelowThreshold s = .next (lasts (.supply false))) ∧
    (s.hold = .pin →
      exec (.powerOn closed) s = .next (lasts .pinAfterSupply) ∧ exec (.resetPin .falls) s = .next s ∧
      ends (.resetPin (.rises closed)) .resetPin 2 ∧ exec .supplyBelowThreshold s = .next (lasts (.supply true))) ∧
    (s.hold = .supply false →
      ends (.powerOn closed) .powerOn 1 ∧ exec (.resetPin .falls) s = .next (lasts (.supply true)) ∧
      exec (.resetPin (.rises closed)) s = .next (lasts (.supply false)) ∧
      exec .supplyBelowThreshold s = .next (lasts (.supply false))) ∧
    (s.hold = .supply true →
      exec (.powerOn closed) s = .next (lasts .pinAfterSupply) ∧ exec (.resetPin .falls) s = .next (lasts (.supply true)) ∧
      exec (.resetPin (.rises closed)) s = .next (lasts (.supply false)) ∧
      exec .supplyBelowThreshold s = .next (lasts (.supply true))) ∧
    (s.hold = .pinAfterSupply →
      exec (.powerOn closed) s = .next s ∧ exec (.resetPin .falls) s = .next s ∧
      ends (.resetPin (.rises closed)) .powerOn 1 ∧ exec .supplyBelowThreshold s = .next (lasts (.supply true))) ∧
    (s.inReset = true → ∀ i : Instr, (∀ c, i ≠ .powerOn c) → (∀ e, i ≠ .resetPin e) → i ≠ .supplyBelowThreshold →
      exec i s = .next s))

/-! ### The cue link -/

/-- The receiver's line and bytes (R137, R138, R139, R141): FRAMING, LINE_HIGH_BIT_TIME, STRAY and PARTIAL_MESSAGE. A start bit whose
middle reads high is noise, and nothing is counted; a low one begins a byte of eight data bits, least significant first, and a
stop bit, and a low stop bit is a framing fault; a receiver that waits for the line to be high takes no byte. That STRAY and the
rows of messages carry the line's samples, FRAMING none since its byte is discarded whatever it holds, that a row whose samples
bring no byte leaves the byte in progress, and that a row does nothing where its byte is not the row's own, are the model's choices
(assumptions 20 and 10). -/
def Obligations.CueLinkBytes : Prop :=
  ∀ s : State, s.inReset = false →
    let lined : Line → State := fun line => { s with link := { s.link with line := line } }
    let faulted : CueLink → Nat → State := fun link code => { s with
      link := link
      notices := s.notices.set 15 { s.notices[15] with
        pending := true, count := min 255 (s.notices[15].count + 1), subject := code } }
    let idle := { s.link with line := .idle }
    let faults := s.link.faults
    let stray := { faults with stray := min 255 (faults.stray + 1) }
    let broken := faulted { s.link with line := .waitHigh, partialBytes := [],
                                        faults := { faults with framing := min 255 (faults.framing + 1) } } 2
    let size := s.link.partialBytes.length
    (s.link.line = .waitHigh →
      exec .lineHighBitTime s = .next { s with link := { s.link with line := .idle, partialBytes := [] } }) ∧
    (s.link.line ≠ .waitHigh → exec .lineHighBitTime s = .next s) ∧
    (s.link.line = .waitHigh → exec .framing s = .next s) ∧ (s.link.line ≠ .waitHigh → exec .framing s = .next broken) ∧
    (∀ row ∈ [Instr.stray, .partialMessage, .cueLinkMessage],
      (s.link.line = .waitHigh → ∀ samples, exec (row samples) s = .next s) ∧
      (s.link.line = .idle → ∀ noise : Nat, exec (row (List.replicate noise true)) s = .next s ∧
        ∀ bits : List Bool, bits.length ≤ 8 →
          exec (row (List.replicate noise true ++ false :: bits)) s = .next (lined (.receiving bits))) ∧
      (∀ got bits : List Bool, s.link.line = .receiving got → got.length + bits.length ≤ 8 →
        exec (row bits) s = .next (lined (.receiving (got ++ bits)))) ∧
      (∀ (b : Byte) (samples : List Bool), Delivers s.link.line samples b false → exec (row samples) s = .next broken)) ∧
    (∀ (b : Byte) (samples : List Bool),
      (Delivers s.link.line samples b true →
        exec (.stray samples) s = .next
          (if b.msb = true ∧ 0 < size then faulted { idle with partialBytes := [b], faults := stray } 1
           else if b.msb = false ∧ size = 0 then faulted { idle with faults := stray } 1 else s) ∧
        exec (.partialMessage samples) s = .next
          (if (b.msb = true ∧ size = 0) ∨ (b.msb = false ∧ (size = 1 ∨ size = 2)) then
            { s with link := { idle with partialBytes := s.link.partialBytes ++ [b] } } else s) ∧
        (b.msb = true ∨ size ≠ 3 → exec (.cueLinkMessage samples) s = .next s)))

/-- CUE_LINK_MESSAGE (R137, R139, R140, R141, R142, R145): the check byte completes the message, which is examined for its check,
its content and room; a good message joins the FIFO, and CUE_HOLD follows the depth. The row carries the samples of the check byte
(assumption 20). -/
def Obligations.CueLinkMessageExamined : Prop :=
  ∀ (s : State) (start d1 d2 check : Byte) (samples : List Bool), s.inReset = false → Delivers s.link.line samples check true →
    check.msb = false → s.link.partialBytes = [start, d1, d2] →
    let row := exec (.cueLinkMessage samples) s
    let fault : FaultCounts → Nat → State := fun faults code => { s with
      link := { s.link with line := .idle, partialBytes := [], faults := faults }
      notices := s.notices.set 15 { s.notices[15] with
        pending := true, count := min 255 (s.notices[15].count + 1), subject := code } }
    let faults := s.link.faults
    let depth := s.link.fifo.length + 1
    let good : CueMessage → Prop := fun m => row = .next
      (if depth ≤ 16 then { s with link := { s.link with
          line := .idle, partialBytes := [], fifo := s.link.fifo ++ [m]
          hold := if 12 ≤ depth then true else if depth ≤ 8 then false else s.link.hold } }
       else fault { faults with overrun := min 255 (faults.overrun + 1) } 5)
    let bad : Prop := row = .next (fault { faults with content := min 255 (faults.content + 1) } 4)
    (check.toNat ≠ (start.toNat + d1.toNat + d2.toNat) % 128 →
      row = .next (fault { faults with check := min 255 (faults.check + 1) } 3)) ∧
    (check.toNat = (start.toNat + d1.toNat + d2.toNat) % 128 →
      (start = 0x81 → if d1.toNat ≤ 119 then good (.keyDown d1.toNat) else bad) ∧
      (start = 0x82 → if d1.toNat ≤ 119 then good (.keyUp d1.toNat) else bad) ∧
      (start = 0x83 → good .keysClear) ∧
      (start = 0x84 → (d1 = 0 → good (.latch false)) ∧ (d1 = 1 → good (.latch true)) ∧ (2 ≤ d1.toNat → bad)) ∧
      (start = 0x85 → (∀ n : SceneId, d1.toNat = n.val → good (.sceneCue n)) ∧ (32 ≤ d1.toNat → bad)) ∧
      (start = 0x86 → (d1 = 1 → good (.setlistStep true)) ∧ (d1 = 2 → good (.setlistStep false)) ∧
        (d1 ≠ 1 → d1 ≠ 2 → bad)) ∧
      (start = 0x87 → good .cueFire) ∧
      (start.toNat < 0x81 ∨ 0x87 < start.toNat → bad))

/-- KEY_DOWN (R147), KEY_UP (R148), KEYS_CLEAR and LATCH (R149), each taken from the FIFO's head in the act of its effect (R143),
with CUE_HOLD following the depth (R145). -/
def Obligations.ChordMessagesTaken : Prop :=
  ∀ (s : State) (m : CueMessage) (rest : List CueMessage), s.inReset = false → s.link.headWaits = false →
    s.link.fifo = m :: rest →
    let link := { s.link with fifo := rest, hold := if 12 ≤ rest.length then true else if rest.length ≤ 8 then false
                                                    else s.link.hold }
    let old := s.chord.entries
    let taken : List ChordEntry → Bool → State := fun entries latch => { s with
      link := link, chord := { entries := entries, latch := latch } }
    (∀ n, m = .keyDown n →
      let kept := if s.chord.latch = true ∧ old ≠ [] ∧ (∀ e ∈ old, e.down = false) then [] else old
      exec .keyDown s = .next (taken
        (if ∃ e ∈ kept, e.note = n then kept.map fun e => if e.note = n then { e with down := true } else e
         else (if 8 ≤ kept.length then kept.drop 1 else kept) ++ [{ note := n, down := true }]) s.chord.latch)) ∧
    (∀ n, m = .keyUp n → exec .keyUp s = .next (taken
      (if s.chord.latch = true then old.map fun e => if e.note = n then { e with down := false } else e
       else old.filter fun e => e.note ≠ n) s.chord.latch)) ∧
    (m = .keysClear → exec .keysClear s = .next (taken [] s.chord.latch)) ∧
    (m = .latch true → exec .latch s = .next (taken old true)) ∧
    (m = .latch false → exec .latch s = .next (taken (old.filter fun e => e.down) false))

/-- SCENE_CUE, SETLIST_STEP and CUE_FIRE taken from the FIFO's head (R122, R123, R132, R143, R144): staged with a place found, or
left waiting at the head; the end of the setlist raises SETLIST_END; a fire is ignored while no cue is ARMED. -/
def Obligations.ShowMessagesTaken : Prop :=
  ∀ (s : State) (m : CueMessage) (rest : List CueMessage), s.inReset = false → s.link.headWaits = false →
    s.link.fifo = m :: rest → SetlistLegal s.setlist →
    let popped := { s with link := { s.link with
      fifo := rest, hold := if 12 ≤ rest.length then true else if rest.length ≤ 8 then false else s.link.hold } }
    let waits := { s with link := { s.link with headWaits := true } }
    let len := s.setlist.entries.length
    let pos := s.setlist.position
    let moves : Nat → Prop := fun p => ∀ n : SceneId, s.setlist.entries[p]? = some n →
      exec .setlistStep s = .next (if Room s then
          { popped with queue := s.queue ++ [.take n], setlist := { s.setlist with position := p } }
        else waits)
    let ends : Prop := exec .setlistStep s = .next
      { popped with notices := s.notices.set 13 { s.notices[13] with
          pending := true, count := min 255 (s.notices[13].count + 1), subject := pos } }
    (∀ n : SceneId, m = .sceneCue n → exec .sceneCue s = .next
      (if Room s then { popped with queue := s.queue ++ [.take n] } else waits)) ∧
    (∀ forward, m = .setlistStep forward →
      (len = 0 → ends) ∧
      (0 < len → forward = true → (pos + 1 < len → moves (pos + 1)) ∧
        (pos + 1 = len → if s.setlist.wrap = true then moves 0 else ends)) ∧
      (0 < len → forward = false → (0 < pos → moves (pos - 1)) ∧
        (pos = 0 → if s.setlist.wrap = true then moves (len - 1) else ends))) ∧
    (m = .cueFire → exec .cueFire s = .next
      (if s.cue.armed = true then
        { popped with
          queue := s.queue ++ [.take s.cue.scene]
          cue := { s.cue with armed := false, remaining := 0 }
          notices := s.notices.set 11 { s.notices[11] with
            pending := true, count := min 255 (s.notices[11].count + 1), subject := s.cue.scene.val } }
       else popped))

/-! ### Pedals -/

/-- PEDAL (R180): a change of held state is taken at the second of two consecutive samples opposite to it, and raises PEDAL with
subject pedal·2 + state; a release does no more. That the row carries a run of samples is the model's choice (assumption 16).
PEDAL, a press (R93, R122, R123, R132, R150, R180, R181): the held state, the PEDAL notice, and the pedal's binding run. -/
def Obligations.PedalDebouncedAndBindingRun : Prop :=
  (∀ (s : State) (p : PedalId), s.inReset = false →
    let d := s.pedals[p]
    (∀ c : Bool, c = d.closed →
      exec (.pedal p [c]) s = .next { s with pedals := s.pedals.set p { d with differing := false } }) ∧
    (∀ c : Bool, c ≠ d.closed → d.differing = false →
      exec (.pedal p [c]) s = .next { s with pedals := s.pedals.set p { d with differing := true } }) ∧
    (d.closed = true → d.differing = true → exec (.pedal p [false]) s = .next
      { s with
        pedals := s.pedals.set p { d with closed := false, differing := false }
        notices := s.notices.set 14 { s.notices[14] with
          pending := true, count := min 255 (s.notices[14].count + 1), subject := 2 * p.val } }) ∧
    (∀ first rest : List Bool, ∃ t, exec (.pedal p first) s = .next t ∧
      exec (.pedal p (first ++ rest)) s = exec (.pedal p rest) t)) ∧
  (∀ (s : State) (p : PedalId), s.inReset = false → s.pedals[p].closed = false → s.pedals[p].differing = true →
    SetlistLegal s.setlist →
    let raised : Fin 17 → Nat → State → State := fun kind subject t => { t with
      notices := t.notices.set kind { t.notices[kind] with
        pending := true, count := min 255 (t.notices[kind].count + 1), subject := subject } }
    let u := raised 14 (2 * p.val + 1)
      { s with pedals := s.pedals.set p { s.pedals[p] with closed := true, differing := false } }
    let run : State → Prop := fun t => exec (.pedal p [true]) s = .next t
    let len := s.setlist.entries.length
    let pos := s.setlist.position
    let moves : Nat → Prop := fun q => ∀ n : SceneId, s.setlist.entries[q]? = some n →
      run (if Room s then { u with queue := s.queue ++ [.take n], setlist := { s.setlist with position := q } }
           else raised 16 p.val u)
    let toggles : LaneId → LaneSettings → Prop := fun k st =>
      run (if Room s then { u with queue := s.queue ++ [.laneSettings k st] } else raised 16 p.val u)
    (s.pedals[p].binding = .none → run u) ∧
    (s.pedals[p].binding = .setlistNext →
      (len = 0 → run (raised 13 pos u)) ∧ (0 < len → pos + 1 < len → moves (pos + 1)) ∧
      (0 < len → pos + 1 = len → if s.setlist.wrap = true then moves 0 else run (raised 13 pos u))) ∧
    (s.pedals[p].binding = .setlistPrev →
      (len = 0 → run (raised 13 pos u)) ∧ (0 < len → 0 < pos → moves (pos - 1)) ∧
      (0 < len → pos = 0 → if s.setlist.wrap = true then moves (len - 1) else run (raised 13 pos u))) ∧
    (∀ k, s.pedals[p].binding = .freezeToggle k →
      toggles k { s.lanes[k].settings with freeze := !s.lanes[k].settings.freeze }) ∧
    (∀ k, s.pedals[p].binding = .bypassToggle k →
      toggles k { s.lanes[k].settings with bypass := !s.lanes[k].settings.bypass }) ∧
    (s.pedals[p].binding = .fireCue → run (if s.cue.armed = true then raised 11 s.cue.scene.val
        { u with
          queue := s.queue ++ [.take s.cue.scene]
          cue := { s.cue with armed := false, remaining := 0 }
          link := { s.link with headWaits := false } }
      else u)) ∧
    (s.pedals[p].binding = .chordClear → run { u with chord := { entries := [], latch := s.chord.latch } }))

/-! ### Invariants that every step keeps -/

/-- The change queue never holds more than 16 entries and keeps its reserved place while a cue is ARMED (R91), and the armed
cue's record keeps its law (R126, R131). -/
def Obligations.StepKeepsQueueAndCueLaws : Prop :=
  ∀ s t : State, QueueLaw s → CueLaw s → step s = .next t → QueueLaw t ∧ CueLaw t

/-- Every notice's count stays within 0 to 255, and a kind is pending exactly when its count is above 0 (R175).
The word clock supervisor's counts stay in their ranges for its state (R167, R168, R169, section 10.2). After a RESTART's reset act
the port executes that RESTART, with its current result NONE, until it writes its own result (R173; that the model keeps this in a
field of its own is its choice, assumption 22). -/
def Obligations.StepKeepsNoticeClockAndPortLaws : Prop :=
  (∀ s t : State, NoticeLaw s → step s = .next t → NoticeLaw t) ∧
  (∀ s t : State, ClockLaw s → step s = .next t → ClockLaw t) ∧
  (∀ s t : State, PortLaw s → step s = .next t → PortLaw t)

/-- The age list holds exactly the slots that are not FREE and the release list exactly the RELEASING ones, each once (R76, R77),
and no two voices of a lane carry one tag (R48).
A lane that is OFF has no voices (R2, R3). -/
def Obligations.StepKeepsPoolTagAndOffLaws : Prop :=
  (∀ s t : State, PoolLaw s → TagLaw s → step s = .next t → PoolLaw t ∧ TagLaw t) ∧
  (∀ s t : State, PoolLaw s → RecordLaw s → OffLaw s → step s = .next t → OffLaw t)

/-- Everything stored has the ranges it was checked or clamped to (R21, R44, R45, R105, R109, R110, R120): lanes, voices, scenes,
setlist, key map and the entries that wait.
Levels stay within 0 to 4096, intervals within two octaves, ratios within 16384 to 262144 (R41, R42, R43). -/
def Obligations.StepKeepsRecordAndVoiceLaws : Prop :=
  (∀ s t : State, RecordLaw s → step s = .next t → RecordLaw t) ∧
  (∀ s t : State, RecordLaw s → VoiceLaw s → step s = .next t → VoiceLaw t)

/-- A lane is OFF exactly in OFF mode, its runs and counter stay in their ranges, and an accepted pitch lies within the widest
limits (section 1.3). -/
def Obligations.StepKeepsTrackingLaw : Prop :=
  ∀ s t : State, RecordLaw s → TrackingLaw s → step s = .next t → TrackingLaw t

/-- The FIFO, its messages, the byte in progress, the partial message, CUE_HOLD and the fault counts keep their law (R137, R138, R139, R141, R142, R145), and
the chord set its own (R146). -/
def Obligations.StepKeepsLinkAndChordLaws : Prop :=
  ∀ s t : State, LinkLaw s → ChordLaw s → step s = .next t → LinkLaw t ∧ ChordLaw t

/-- Gains, ratios, pans and ramp positions stay in their ranges, a SILENT channel has no gain and its shifter keeps nothing, a slot without a computing voice has a next gain of 0, and every
delay line holds 256 samples (R155, R156, R157, R159, R161). -/
def Obligations.StepKeepsRenderLaw : Prop :=
  ∀ s t : State, RecordLaw s → VoiceLaw s → RenderLaw s → step s = .next t → RenderLaw t

/-- Every law holds after reset. -/
def Obligations.ResetMeetsEveryLaw : Prop :=
  QueueLaw State.reset ∧ CueLaw State.reset ∧ NoticeLaw State.reset ∧ ClockLaw State.reset ∧ PoolLaw State.reset ∧
  TagLaw State.reset ∧ RecordLaw State.reset ∧ OffLaw State.reset ∧ VoiceLaw State.reset ∧ TrackingLaw State.reset ∧
  LinkLaw State.reset ∧ ChordLaw State.reset ∧ RenderLaw State.reset ∧ PortLaw State.reset
end

