-- ==== Sys2Proof/Laws/State.lean ====
section
/-! SUPPORT. One lemma for each field of State under each named update: what the update writes, and that it writes nothing else.
Later proofs rewrite with these and unfold no record update. Then what reading one place of a written table gives. -/

namespace Sys2Proof.Machine

variable (s : State)


/-! ### State.setLane -/

@[simp] theorem State.setLane_lanes (k : LaneId) (l : Lane) : (s.setLane k l).lanes = s.lanes.set k l := rfl
@[simp] theorem State.setLane_voices (k : LaneId) (l : Lane) : (s.setLane k l).voices = s.voices := rfl
@[simp] theorem State.setLane_ageList (k : LaneId) (l : Lane) : (s.setLane k l).ageList = s.ageList := rfl
@[simp] theorem State.setLane_releaseList (k : LaneId) (l : Lane) : (s.setLane k l).releaseList = s.releaseList := rfl
@[simp] theorem State.setLane_queue (k : LaneId) (l : Lane) : (s.setLane k l).queue = s.queue := rfl
@[simp] theorem State.setLane_keyMap (k : LaneId) (l : Lane) : (s.setLane k l).keyMap = s.keyMap := rfl
@[simp] theorem State.setLane_scenes (k : LaneId) (l : Lane) : (s.setLane k l).scenes = s.scenes := rfl
@[simp] theorem State.setLane_currentScene (k : LaneId) (l : Lane) :
    (s.setLane k l).currentScene =
      s.currentScene := rfl
@[simp] theorem State.setLane_setlist (k : LaneId) (l : Lane) : (s.setLane k l).setlist = s.setlist := rfl
@[simp] theorem State.setLane_cue (k : LaneId) (l : Lane) : (s.setLane k l).cue = s.cue := rfl
@[simp] theorem State.setLane_link (k : LaneId) (l : Lane) : (s.setLane k l).link = s.link := rfl
@[simp] theorem State.setLane_chord (k : LaneId) (l : Lane) : (s.setLane k l).chord = s.chord := rfl
@[simp] theorem State.setLane_channels (k : LaneId) (l : Lane) : (s.setLane k l).channels = s.channels := rfl
@[simp] theorem State.setLane_mixers (k : LaneId) (l : Lane) : (s.setLane k l).mixers = s.mixers := rfl
@[simp] theorem State.setLane_audio (k : LaneId) (l : Lane) : (s.setLane k l).audio = s.audio := rfl
@[simp] theorem State.setLane_clock (k : LaneId) (l : Lane) : (s.setLane k l).clock = s.clock := rfl
@[simp] theorem State.setLane_notices (k : LaneId) (l : Lane) : (s.setLane k l).notices = s.notices := rfl
@[simp] theorem State.setLane_pedals (k : LaneId) (l : Lane) : (s.setLane k l).pedals = s.pedals := rfl
@[simp] theorem State.setLane_port (k : LaneId) (l : Lane) : (s.setLane k l).port = s.port := rfl
@[simp] theorem State.setLane_hold (k : LaneId) (l : Lane) : (s.setLane k l).hold = s.hold := rfl
@[simp] theorem State.setLane_inReset (k : LaneId) (l : Lane) : (s.setLane k l).inReset = s.inReset := rfl
@[simp] theorem State.setLane_sampleNo (k : LaneId) (l : Lane) : (s.setLane k l).sampleNo = s.sampleNo := rfl
@[simp] theorem State.setLane_choiceNo (k : LaneId) (l : Lane) : (s.setLane k l).choiceNo = s.choiceNo := rfl
@[simp] theorem State.setLane_pending (k : LaneId) (l : Lane) : (s.setLane k l).pending = s.pending := rfl

/-! ### State.setVoice -/

@[simp] theorem State.setVoice_lanes (i : Slot) (v : Voice) : (s.setVoice i v).lanes = s.lanes := rfl
@[simp] theorem State.setVoice_voices (i : Slot) (v : Voice) : (s.setVoice i v).voices = s.voices.set i v := rfl
@[simp] theorem State.setVoice_ageList (i : Slot) (v : Voice) : (s.setVoice i v).ageList = s.ageList := rfl
@[simp] theorem State.setVoice_releaseList (i : Slot) (v : Voice) : (s.setVoice i v).releaseList = s.releaseList := rfl
@[simp] theorem State.setVoice_queue (i : Slot) (v : Voice) : (s.setVoice i v).queue = s.queue := rfl
@[simp] theorem State.setVoice_keyMap (i : Slot) (v : Voice) : (s.setVoice i v).keyMap = s.keyMap := rfl
@[simp] theorem State.setVoice_scenes (i : Slot) (v : Voice) : (s.setVoice i v).scenes = s.scenes := rfl
@[simp] theorem State.setVoice_currentScene (i : Slot) (v : Voice) :
    (s.setVoice i v).currentScene =
      s.currentScene := rfl
@[simp] theorem State.setVoice_setlist (i : Slot) (v : Voice) : (s.setVoice i v).setlist = s.setlist := rfl
@[simp] theorem State.setVoice_cue (i : Slot) (v : Voice) : (s.setVoice i v).cue = s.cue := rfl
@[simp] theorem State.setVoice_link (i : Slot) (v : Voice) : (s.setVoice i v).link = s.link := rfl
@[simp] theorem State.setVoice_chord (i : Slot) (v : Voice) : (s.setVoice i v).chord = s.chord := rfl
@[simp] theorem State.setVoice_channels (i : Slot) (v : Voice) : (s.setVoice i v).channels = s.channels := rfl
@[simp] theorem State.setVoice_mixers (i : Slot) (v : Voice) : (s.setVoice i v).mixers = s.mixers := rfl
@[simp] theorem State.setVoice_audio (i : Slot) (v : Voice) : (s.setVoice i v).audio = s.audio := rfl
@[simp] theorem State.setVoice_clock (i : Slot) (v : Voice) : (s.setVoice i v).clock = s.clock := rfl
@[simp] theorem State.setVoice_notices (i : Slot) (v : Voice) : (s.setVoice i v).notices = s.notices := rfl
@[simp] theorem State.setVoice_pedals (i : Slot) (v : Voice) : (s.setVoice i v).pedals = s.pedals := rfl
@[simp] theorem State.setVoice_port (i : Slot) (v : Voice) : (s.setVoice i v).port = s.port := rfl
@[simp] theorem State.setVoice_hold (i : Slot) (v : Voice) : (s.setVoice i v).hold = s.hold := rfl
@[simp] theorem State.setVoice_inReset (i : Slot) (v : Voice) : (s.setVoice i v).inReset = s.inReset := rfl
@[simp] theorem State.setVoice_sampleNo (i : Slot) (v : Voice) : (s.setVoice i v).sampleNo = s.sampleNo := rfl
@[simp] theorem State.setVoice_choiceNo (i : Slot) (v : Voice) : (s.setVoice i v).choiceNo = s.choiceNo := rfl
@[simp] theorem State.setVoice_pending (i : Slot) (v : Voice) : (s.setVoice i v).pending = s.pending := rfl

/-! ### State.setChannel -/

@[simp] theorem State.setChannel_lanes (i : Slot) (c : Channel) : (s.setChannel i c).lanes = s.lanes := rfl
@[simp] theorem State.setChannel_voices (i : Slot) (c : Channel) : (s.setChannel i c).voices = s.voices := rfl
@[simp] theorem State.setChannel_ageList (i : Slot) (c : Channel) : (s.setChannel i c).ageList = s.ageList := rfl
@[simp] theorem State.setChannel_releaseList (i : Slot) (c : Channel) :
    (s.setChannel i c).releaseList =
      s.releaseList := rfl
@[simp] theorem State.setChannel_queue (i : Slot) (c : Channel) : (s.setChannel i c).queue = s.queue := rfl
@[simp] theorem State.setChannel_keyMap (i : Slot) (c : Channel) : (s.setChannel i c).keyMap = s.keyMap := rfl
@[simp] theorem State.setChannel_scenes (i : Slot) (c : Channel) : (s.setChannel i c).scenes = s.scenes := rfl
@[simp] theorem State.setChannel_currentScene (i : Slot) (c : Channel) :
    (s.setChannel i c).currentScene =
      s.currentScene := rfl
@[simp] theorem State.setChannel_setlist (i : Slot) (c : Channel) : (s.setChannel i c).setlist = s.setlist := rfl
@[simp] theorem State.setChannel_cue (i : Slot) (c : Channel) : (s.setChannel i c).cue = s.cue := rfl
@[simp] theorem State.setChannel_link (i : Slot) (c : Channel) : (s.setChannel i c).link = s.link := rfl
@[simp] theorem State.setChannel_chord (i : Slot) (c : Channel) : (s.setChannel i c).chord = s.chord := rfl
@[simp] theorem State.setChannel_channels (i : Slot) (c : Channel) :
    (s.setChannel i c).channels =
      s.channels.set i c := rfl
@[simp] theorem State.setChannel_mixers (i : Slot) (c : Channel) : (s.setChannel i c).mixers = s.mixers := rfl
@[simp] theorem State.setChannel_audio (i : Slot) (c : Channel) : (s.setChannel i c).audio = s.audio := rfl
@[simp] theorem State.setChannel_clock (i : Slot) (c : Channel) : (s.setChannel i c).clock = s.clock := rfl
@[simp] theorem State.setChannel_notices (i : Slot) (c : Channel) : (s.setChannel i c).notices = s.notices := rfl
@[simp] theorem State.setChannel_pedals (i : Slot) (c : Channel) : (s.setChannel i c).pedals = s.pedals := rfl
@[simp] theorem State.setChannel_port (i : Slot) (c : Channel) : (s.setChannel i c).port = s.port := rfl
@[simp] theorem State.setChannel_hold (i : Slot) (c : Channel) : (s.setChannel i c).hold = s.hold := rfl
@[simp] theorem State.setChannel_inReset (i : Slot) (c : Channel) : (s.setChannel i c).inReset = s.inReset := rfl
@[simp] theorem State.setChannel_sampleNo (i : Slot) (c : Channel) : (s.setChannel i c).sampleNo = s.sampleNo := rfl
@[simp] theorem State.setChannel_choiceNo (i : Slot) (c : Channel) : (s.setChannel i c).choiceNo = s.choiceNo := rfl
@[simp] theorem State.setChannel_pending (i : Slot) (c : Channel) : (s.setChannel i c).pending = s.pending := rfl

/-! ### State.setMixer -/

@[simp] theorem State.setMixer_lanes (k : LaneId) (m : Mixer) : (s.setMixer k m).lanes = s.lanes := rfl
@[simp] theorem State.setMixer_voices (k : LaneId) (m : Mixer) : (s.setMixer k m).voices = s.voices := rfl
@[simp] theorem State.setMixer_ageList (k : LaneId) (m : Mixer) : (s.setMixer k m).ageList = s.ageList := rfl
@[simp] theorem State.setMixer_releaseList (k : LaneId) (m : Mixer) :
    (s.setMixer k m).releaseList =
      s.releaseList := rfl
@[simp] theorem State.setMixer_queue (k : LaneId) (m : Mixer) : (s.setMixer k m).queue = s.queue := rfl
@[simp] theorem State.setMixer_keyMap (k : LaneId) (m : Mixer) : (s.setMixer k m).keyMap = s.keyMap := rfl
@[simp] theorem State.setMixer_scenes (k : LaneId) (m : Mixer) : (s.setMixer k m).scenes = s.scenes := rfl
@[simp] theorem State.setMixer_currentScene (k : LaneId) (m : Mixer) :
    (s.setMixer k m).currentScene =
      s.currentScene := rfl
@[simp] theorem State.setMixer_setlist (k : LaneId) (m : Mixer) : (s.setMixer k m).setlist = s.setlist := rfl
@[simp] theorem State.setMixer_cue (k : LaneId) (m : Mixer) : (s.setMixer k m).cue = s.cue := rfl
@[simp] theorem State.setMixer_link (k : LaneId) (m : Mixer) : (s.setMixer k m).link = s.link := rfl
@[simp] theorem State.setMixer_chord (k : LaneId) (m : Mixer) : (s.setMixer k m).chord = s.chord := rfl
@[simp] theorem State.setMixer_channels (k : LaneId) (m : Mixer) : (s.setMixer k m).channels = s.channels := rfl
@[simp] theorem State.setMixer_mixers (k : LaneId) (m : Mixer) : (s.setMixer k m).mixers = s.mixers.set k m := rfl
@[simp] theorem State.setMixer_audio (k : LaneId) (m : Mixer) : (s.setMixer k m).audio = s.audio := rfl
@[simp] theorem State.setMixer_clock (k : LaneId) (m : Mixer) : (s.setMixer k m).clock = s.clock := rfl
@[simp] theorem State.setMixer_notices (k : LaneId) (m : Mixer) : (s.setMixer k m).notices = s.notices := rfl
@[simp] theorem State.setMixer_pedals (k : LaneId) (m : Mixer) : (s.setMixer k m).pedals = s.pedals := rfl
@[simp] theorem State.setMixer_port (k : LaneId) (m : Mixer) : (s.setMixer k m).port = s.port := rfl
@[simp] theorem State.setMixer_hold (k : LaneId) (m : Mixer) : (s.setMixer k m).hold = s.hold := rfl
@[simp] theorem State.setMixer_inReset (k : LaneId) (m : Mixer) : (s.setMixer k m).inReset = s.inReset := rfl
@[simp] theorem State.setMixer_sampleNo (k : LaneId) (m : Mixer) : (s.setMixer k m).sampleNo = s.sampleNo := rfl
@[simp] theorem State.setMixer_choiceNo (k : LaneId) (m : Mixer) : (s.setMixer k m).choiceNo = s.choiceNo := rfl
@[simp] theorem State.setMixer_pending (k : LaneId) (m : Mixer) : (s.setMixer k m).pending = s.pending := rfl

/-! ### State.setPedal -/

@[simp] theorem State.setPedal_lanes (p : PedalId) (d : Pedal) : (s.setPedal p d).lanes = s.lanes := rfl
@[simp] theorem State.setPedal_voices (p : PedalId) (d : Pedal) : (s.setPedal p d).voices = s.voices := rfl
@[simp] theorem State.setPedal_ageList (p : PedalId) (d : Pedal) : (s.setPedal p d).ageList = s.ageList := rfl
@[simp] theorem State.setPedal_releaseList (p : PedalId) (d : Pedal) :
    (s.setPedal p d).releaseList =
      s.releaseList := rfl
@[simp] theorem State.setPedal_queue (p : PedalId) (d : Pedal) : (s.setPedal p d).queue = s.queue := rfl
@[simp] theorem State.setPedal_keyMap (p : PedalId) (d : Pedal) : (s.setPedal p d).keyMap = s.keyMap := rfl
@[simp] theorem State.setPedal_scenes (p : PedalId) (d : Pedal) : (s.setPedal p d).scenes = s.scenes := rfl
@[simp] theorem State.setPedal_currentScene (p : PedalId) (d : Pedal) :
    (s.setPedal p d).currentScene =
      s.currentScene := rfl
@[simp] theorem State.setPedal_setlist (p : PedalId) (d : Pedal) : (s.setPedal p d).setlist = s.setlist := rfl
@[simp] theorem State.setPedal_cue (p : PedalId) (d : Pedal) : (s.setPedal p d).cue = s.cue := rfl
@[simp] theorem State.setPedal_link (p : PedalId) (d : Pedal) : (s.setPedal p d).link = s.link := rfl
@[simp] theorem State.setPedal_chord (p : PedalId) (d : Pedal) : (s.setPedal p d).chord = s.chord := rfl
@[simp] theorem State.setPedal_channels (p : PedalId) (d : Pedal) : (s.setPedal p d).channels = s.channels := rfl
@[simp] theorem State.setPedal_mixers (p : PedalId) (d : Pedal) : (s.setPedal p d).mixers = s.mixers := rfl
@[simp] theorem State.setPedal_audio (p : PedalId) (d : Pedal) : (s.setPedal p d).audio = s.audio := rfl
@[simp] theorem State.setPedal_clock (p : PedalId) (d : Pedal) : (s.setPedal p d).clock = s.clock := rfl
@[simp] theorem State.setPedal_notices (p : PedalId) (d : Pedal) : (s.setPedal p d).notices = s.notices := rfl
@[simp] theorem State.setPedal_pedals (p : PedalId) (d : Pedal) : (s.setPedal p d).pedals = s.pedals.set p d := rfl
@[simp] theorem State.setPedal_port (p : PedalId) (d : Pedal) : (s.setPedal p d).port = s.port := rfl
@[simp] theorem State.setPedal_hold (p : PedalId) (d : Pedal) : (s.setPedal p d).hold = s.hold := rfl
@[simp] theorem State.setPedal_inReset (p : PedalId) (d : Pedal) : (s.setPedal p d).inReset = s.inReset := rfl
@[simp] theorem State.setPedal_sampleNo (p : PedalId) (d : Pedal) : (s.setPedal p d).sampleNo = s.sampleNo := rfl
@[simp] theorem State.setPedal_choiceNo (p : PedalId) (d : Pedal) : (s.setPedal p d).choiceNo = s.choiceNo := rfl
@[simp] theorem State.setPedal_pending (p : PedalId) (d : Pedal) : (s.setPedal p d).pending = s.pending := rfl

/-! ### State.setScene -/

@[simp] theorem State.setScene_lanes (n : SceneId) (sc : Option Scene) : (s.setScene n sc).lanes = s.lanes := rfl
@[simp] theorem State.setScene_voices (n : SceneId) (sc : Option Scene) : (s.setScene n sc).voices = s.voices := rfl
@[simp] theorem State.setScene_ageList (n : SceneId) (sc : Option Scene) : (s.setScene n sc).ageList = s.ageList := rfl
@[simp] theorem State.setScene_releaseList (n : SceneId) (sc : Option Scene) :
    (s.setScene n sc).releaseList =
      s.releaseList := rfl
@[simp] theorem State.setScene_queue (n : SceneId) (sc : Option Scene) : (s.setScene n sc).queue = s.queue := rfl
@[simp] theorem State.setScene_keyMap (n : SceneId) (sc : Option Scene) : (s.setScene n sc).keyMap = s.keyMap := rfl
@[simp] theorem State.setScene_scenes (n : SceneId) (sc : Option Scene) :
    (s.setScene n sc).scenes =
      s.scenes.set n sc := rfl
@[simp] theorem State.setScene_currentScene (n : SceneId) (sc : Option Scene) :
    (s.setScene n sc).currentScene =
      s.currentScene := rfl
@[simp] theorem State.setScene_setlist (n : SceneId) (sc : Option Scene) : (s.setScene n sc).setlist = s.setlist := rfl
@[simp] theorem State.setScene_cue (n : SceneId) (sc : Option Scene) : (s.setScene n sc).cue = s.cue := rfl
@[simp] theorem State.setScene_link (n : SceneId) (sc : Option Scene) : (s.setScene n sc).link = s.link := rfl
@[simp] theorem State.setScene_chord (n : SceneId) (sc : Option Scene) : (s.setScene n sc).chord = s.chord := rfl
@[simp] theorem State.setScene_channels (n : SceneId) (sc : Option Scene) :
    (s.setScene n sc).channels =
      s.channels := rfl
@[simp] theorem State.setScene_mixers (n : SceneId) (sc : Option Scene) : (s.setScene n sc).mixers = s.mixers := rfl
@[simp] theorem State.setScene_audio (n : SceneId) (sc : Option Scene) : (s.setScene n sc).audio = s.audio := rfl
@[simp] theorem State.setScene_clock (n : SceneId) (sc : Option Scene) : (s.setScene n sc).clock = s.clock := rfl
@[simp] theorem State.setScene_notices (n : SceneId) (sc : Option Scene) : (s.setScene n sc).notices = s.notices := rfl
@[simp] theorem State.setScene_pedals (n : SceneId) (sc : Option Scene) : (s.setScene n sc).pedals = s.pedals := rfl
@[simp] theorem State.setScene_port (n : SceneId) (sc : Option Scene) : (s.setScene n sc).port = s.port := rfl
@[simp] theorem State.setScene_hold (n : SceneId) (sc : Option Scene) : (s.setScene n sc).hold = s.hold := rfl
@[simp] theorem State.setScene_inReset (n : SceneId) (sc : Option Scene) : (s.setScene n sc).inReset = s.inReset := rfl
@[simp] theorem State.setScene_sampleNo (n : SceneId) (sc : Option Scene) :
    (s.setScene n sc).sampleNo =
      s.sampleNo := rfl
@[simp] theorem State.setScene_choiceNo (n : SceneId) (sc : Option Scene) :
    (s.setScene n sc).choiceNo =
      s.choiceNo := rfl
@[simp] theorem State.setScene_pending (n : SceneId) (sc : Option Scene) : (s.setScene n sc).pending = s.pending := rfl

/-! ### State.raise -/

@[simp] theorem State.raise_lanes (k : NoticeKind) (x : Nat) : (s.raise k x).lanes = s.lanes := rfl
@[simp] theorem State.raise_voices (k : NoticeKind) (x : Nat) : (s.raise k x).voices = s.voices := rfl
@[simp] theorem State.raise_ageList (k : NoticeKind) (x : Nat) : (s.raise k x).ageList = s.ageList := rfl
@[simp] theorem State.raise_releaseList (k : NoticeKind) (x : Nat) : (s.raise k x).releaseList = s.releaseList := rfl
@[simp] theorem State.raise_queue (k : NoticeKind) (x : Nat) : (s.raise k x).queue = s.queue := rfl
@[simp] theorem State.raise_keyMap (k : NoticeKind) (x : Nat) : (s.raise k x).keyMap = s.keyMap := rfl
@[simp] theorem State.raise_scenes (k : NoticeKind) (x : Nat) : (s.raise k x).scenes = s.scenes := rfl
@[simp] theorem State.raise_currentScene (k : NoticeKind) (x : Nat) : (s.raise k x).currentScene = s.currentScene := rfl
@[simp] theorem State.raise_setlist (k : NoticeKind) (x : Nat) : (s.raise k x).setlist = s.setlist := rfl
@[simp] theorem State.raise_cue (k : NoticeKind) (x : Nat) : (s.raise k x).cue = s.cue := rfl
@[simp] theorem State.raise_link (k : NoticeKind) (x : Nat) : (s.raise k x).link = s.link := rfl
@[simp] theorem State.raise_chord (k : NoticeKind) (x : Nat) : (s.raise k x).chord = s.chord := rfl
@[simp] theorem State.raise_channels (k : NoticeKind) (x : Nat) : (s.raise k x).channels = s.channels := rfl
@[simp] theorem State.raise_mixers (k : NoticeKind) (x : Nat) : (s.raise k x).mixers = s.mixers := rfl
@[simp] theorem State.raise_audio (k : NoticeKind) (x : Nat) : (s.raise k x).audio = s.audio := rfl
@[simp] theorem State.raise_clock (k : NoticeKind) (x : Nat) : (s.raise k x).clock = s.clock := rfl
@[simp] theorem State.raise_notices (k : NoticeKind) (x : Nat) :
    (s.raise k x).notices =
      s.notices.set k.number (raiseNotice s.notices[k.number] x) := rfl
@[simp] theorem State.raise_pedals (k : NoticeKind) (x : Nat) : (s.raise k x).pedals = s.pedals := rfl
@[simp] theorem State.raise_port (k : NoticeKind) (x : Nat) : (s.raise k x).port = s.port := rfl
@[simp] theorem State.raise_hold (k : NoticeKind) (x : Nat) : (s.raise k x).hold = s.hold := rfl
@[simp] theorem State.raise_inReset (k : NoticeKind) (x : Nat) : (s.raise k x).inReset = s.inReset := rfl
@[simp] theorem State.raise_sampleNo (k : NoticeKind) (x : Nat) : (s.raise k x).sampleNo = s.sampleNo := rfl
@[simp] theorem State.raise_choiceNo (k : NoticeKind) (x : Nat) : (s.raise k x).choiceNo = s.choiceNo := rfl
@[simp] theorem State.raise_pending (k : NoticeKind) (x : Nat) : (s.raise k x).pending = s.pending := rfl

/-! ### State.freeVoice -/

@[simp] theorem State.freeVoice_lanes (i : Slot) : (s.freeVoice i).lanes = s.lanes := rfl
@[simp] theorem State.freeVoice_voices (i : Slot) :
    (s.freeVoice i).voices =
      s.voices.set i (.freeSlot s.voices[i].generation) := rfl
@[simp] theorem State.freeVoice_ageList (i : Slot) : (s.freeVoice i).ageList = s.ageList.filter (· ≠ i) := rfl
@[simp] theorem State.freeVoice_releaseList (i : Slot) :
    (s.freeVoice i).releaseList =
      s.releaseList.filter (· ≠ i) := rfl
@[simp] theorem State.freeVoice_queue (i : Slot) : (s.freeVoice i).queue = s.queue := rfl
@[simp] theorem State.freeVoice_keyMap (i : Slot) : (s.freeVoice i).keyMap = s.keyMap := rfl
@[simp] theorem State.freeVoice_scenes (i : Slot) : (s.freeVoice i).scenes = s.scenes := rfl
@[simp] theorem State.freeVoice_currentScene (i : Slot) : (s.freeVoice i).currentScene = s.currentScene := rfl
@[simp] theorem State.freeVoice_setlist (i : Slot) : (s.freeVoice i).setlist = s.setlist := rfl
@[simp] theorem State.freeVoice_cue (i : Slot) : (s.freeVoice i).cue = s.cue := rfl
@[simp] theorem State.freeVoice_link (i : Slot) : (s.freeVoice i).link = s.link := rfl
@[simp] theorem State.freeVoice_chord (i : Slot) : (s.freeVoice i).chord = s.chord := rfl
@[simp] theorem State.freeVoice_channels (i : Slot) : (s.freeVoice i).channels = s.channels := rfl
@[simp] theorem State.freeVoice_mixers (i : Slot) : (s.freeVoice i).mixers = s.mixers := rfl
@[simp] theorem State.freeVoice_audio (i : Slot) : (s.freeVoice i).audio = s.audio := rfl
@[simp] theorem State.freeVoice_clock (i : Slot) : (s.freeVoice i).clock = s.clock := rfl
@[simp] theorem State.freeVoice_notices (i : Slot) : (s.freeVoice i).notices = s.notices := rfl
@[simp] theorem State.freeVoice_pedals (i : Slot) : (s.freeVoice i).pedals = s.pedals := rfl
@[simp] theorem State.freeVoice_port (i : Slot) : (s.freeVoice i).port = s.port := rfl
@[simp] theorem State.freeVoice_hold (i : Slot) : (s.freeVoice i).hold = s.hold := rfl
@[simp] theorem State.freeVoice_inReset (i : Slot) : (s.freeVoice i).inReset = s.inReset := rfl
@[simp] theorem State.freeVoice_sampleNo (i : Slot) : (s.freeVoice i).sampleNo = s.sampleNo := rfl
@[simp] theorem State.freeVoice_choiceNo (i : Slot) : (s.freeVoice i).choiceNo = s.choiceNo := rfl
@[simp] theorem State.freeVoice_pending (i : Slot) : (s.freeVoice i).pending = s.pending := rfl

/-! ### State.cut -/

@[simp] theorem State.cut_lanes (i : Slot) : (s.cut i).lanes = s.lanes := rfl
@[simp] theorem State.cut_voices (i : Slot) : (s.cut i).voices = s.voices := rfl
@[simp] theorem State.cut_ageList (i : Slot) : (s.cut i).ageList = s.ageList := rfl
@[simp] theorem State.cut_releaseList (i : Slot) : (s.cut i).releaseList = s.releaseList := rfl
@[simp] theorem State.cut_queue (i : Slot) : (s.cut i).queue = s.queue := rfl
@[simp] theorem State.cut_keyMap (i : Slot) : (s.cut i).keyMap = s.keyMap := rfl
@[simp] theorem State.cut_scenes (i : Slot) : (s.cut i).scenes = s.scenes := rfl
@[simp] theorem State.cut_currentScene (i : Slot) : (s.cut i).currentScene = s.currentScene := rfl
@[simp] theorem State.cut_setlist (i : Slot) : (s.cut i).setlist = s.setlist := rfl
@[simp] theorem State.cut_cue (i : Slot) : (s.cut i).cue = s.cue := rfl
@[simp] theorem State.cut_link (i : Slot) : (s.cut i).link = s.link := rfl
@[simp] theorem State.cut_chord (i : Slot) : (s.cut i).chord = s.chord := rfl
@[simp] theorem State.cut_channels (i : Slot) : (s.cut i).channels = s.channels.set i (cutChannel s.channels[i]) := rfl
@[simp] theorem State.cut_mixers (i : Slot) : (s.cut i).mixers = s.mixers := rfl
@[simp] theorem State.cut_audio (i : Slot) : (s.cut i).audio = s.audio := rfl
@[simp] theorem State.cut_clock (i : Slot) : (s.cut i).clock = s.clock := rfl
@[simp] theorem State.cut_notices (i : Slot) : (s.cut i).notices = s.notices := rfl
@[simp] theorem State.cut_pedals (i : Slot) : (s.cut i).pedals = s.pedals := rfl
@[simp] theorem State.cut_port (i : Slot) : (s.cut i).port = s.port := rfl
@[simp] theorem State.cut_hold (i : Slot) : (s.cut i).hold = s.hold := rfl
@[simp] theorem State.cut_inReset (i : Slot) : (s.cut i).inReset = s.inReset := rfl
@[simp] theorem State.cut_sampleNo (i : Slot) : (s.cut i).sampleNo = s.sampleNo := rfl
@[simp] theorem State.cut_choiceNo (i : Slot) : (s.cut i).choiceNo = s.choiceNo := rfl
@[simp] theorem State.cut_pending (i : Slot) : (s.cut i).pending = s.pending := rfl

/-! ### State.allocate -/

@[simp] theorem State.allocate_lanes (i : Slot) (o : Owner) (t : Template) : (s.allocate i o t).lanes = s.lanes := rfl
@[simp] theorem State.allocate_voices (i : Slot) (o : Owner) (t : Template) :
    (s.allocate i o t).voices =
      s.voices.set i { Voice.freeSlot (s.voices[i].generation + 1) with template := t, state := .pending, owner := o } := rfl
@[simp] theorem State.allocate_ageList (i : Slot) (o : Owner) (t : Template) :
    (s.allocate i o t).ageList =
      s.ageList ++ [i] := rfl
@[simp] theorem State.allocate_releaseList (i : Slot) (o : Owner) (t : Template) :
    (s.allocate i o t).releaseList =
      s.releaseList := rfl
@[simp] theorem State.allocate_queue (i : Slot) (o : Owner) (t : Template) : (s.allocate i o t).queue = s.queue := rfl
@[simp] theorem State.allocate_keyMap (i : Slot) (o : Owner) (t : Template) :
    (s.allocate i o t).keyMap =
      s.keyMap := rfl
@[simp] theorem State.allocate_scenes (i : Slot) (o : Owner) (t : Template) :
    (s.allocate i o t).scenes =
      s.scenes := rfl
@[simp] theorem State.allocate_currentScene (i : Slot) (o : Owner) (t : Template) :
    (s.allocate i o t).currentScene =
      s.currentScene := rfl
@[simp] theorem State.allocate_setlist (i : Slot) (o : Owner) (t : Template) :
    (s.allocate i o t).setlist =
      s.setlist := rfl
@[simp] theorem State.allocate_cue (i : Slot) (o : Owner) (t : Template) : (s.allocate i o t).cue = s.cue := rfl
@[simp] theorem State.allocate_link (i : Slot) (o : Owner) (t : Template) : (s.allocate i o t).link = s.link := rfl
@[simp] theorem State.allocate_chord (i : Slot) (o : Owner) (t : Template) : (s.allocate i o t).chord = s.chord := rfl
@[simp] theorem State.allocate_channels (i : Slot) (o : Owner) (t : Template) :
    (s.allocate i o t).channels =
      s.channels := rfl
@[simp] theorem State.allocate_mixers (i : Slot) (o : Owner) (t : Template) :
    (s.allocate i o t).mixers =
      s.mixers := rfl
@[simp] theorem State.allocate_audio (i : Slot) (o : Owner) (t : Template) : (s.allocate i o t).audio = s.audio := rfl
@[simp] theorem State.allocate_clock (i : Slot) (o : Owner) (t : Template) : (s.allocate i o t).clock = s.clock := rfl
@[simp] theorem State.allocate_notices (i : Slot) (o : Owner) (t : Template) :
    (s.allocate i o t).notices =
      s.notices := rfl
@[simp] theorem State.allocate_pedals (i : Slot) (o : Owner) (t : Template) :
    (s.allocate i o t).pedals =
      s.pedals := rfl
@[simp] theorem State.allocate_port (i : Slot) (o : Owner) (t : Template) : (s.allocate i o t).port = s.port := rfl
@[simp] theorem State.allocate_hold (i : Slot) (o : Owner) (t : Template) : (s.allocate i o t).hold = s.hold := rfl
@[simp] theorem State.allocate_inReset (i : Slot) (o : Owner) (t : Template) :
    (s.allocate i o t).inReset =
      s.inReset := rfl
@[simp] theorem State.allocate_sampleNo (i : Slot) (o : Owner) (t : Template) :
    (s.allocate i o t).sampleNo =
      s.sampleNo := rfl
@[simp] theorem State.allocate_choiceNo (i : Slot) (o : Owner) (t : Template) :
    (s.allocate i o t).choiceNo =
      s.choiceNo := rfl
@[simp] theorem State.allocate_pending (i : Slot) (o : Owner) (t : Template) :
    (s.allocate i o t).pending =
      s.pending := rfl

/-! ### State.stage -/

@[simp] theorem State.stage_lanes (e : Entry) : (s.stage e).lanes = s.lanes := rfl
@[simp] theorem State.stage_voices (e : Entry) : (s.stage e).voices = s.voices := rfl
@[simp] theorem State.stage_ageList (e : Entry) : (s.stage e).ageList = s.ageList := rfl
@[simp] theorem State.stage_releaseList (e : Entry) : (s.stage e).releaseList = s.releaseList := rfl
@[simp] theorem State.stage_queue (e : Entry) : (s.stage e).queue = s.queue ++ [e] := rfl
@[simp] theorem State.stage_keyMap (e : Entry) : (s.stage e).keyMap = s.keyMap := rfl
@[simp] theorem State.stage_scenes (e : Entry) : (s.stage e).scenes = s.scenes := rfl
@[simp] theorem State.stage_currentScene (e : Entry) : (s.stage e).currentScene = s.currentScene := rfl
@[simp] theorem State.stage_setlist (e : Entry) : (s.stage e).setlist = s.setlist := rfl
@[simp] theorem State.stage_cue (e : Entry) : (s.stage e).cue = s.cue := rfl
@[simp] theorem State.stage_link (e : Entry) : (s.stage e).link = s.link := rfl
@[simp] theorem State.stage_chord (e : Entry) : (s.stage e).chord = s.chord := rfl
@[simp] theorem State.stage_channels (e : Entry) : (s.stage e).channels = s.channels := rfl
@[simp] theorem State.stage_mixers (e : Entry) : (s.stage e).mixers = s.mixers := rfl
@[simp] theorem State.stage_audio (e : Entry) : (s.stage e).audio = s.audio := rfl
@[simp] theorem State.stage_clock (e : Entry) : (s.stage e).clock = s.clock := rfl
@[simp] theorem State.stage_notices (e : Entry) : (s.stage e).notices = s.notices := rfl
@[simp] theorem State.stage_pedals (e : Entry) : (s.stage e).pedals = s.pedals := rfl
@[simp] theorem State.stage_port (e : Entry) : (s.stage e).port = s.port := rfl
@[simp] theorem State.stage_hold (e : Entry) : (s.stage e).hold = s.hold := rfl
@[simp] theorem State.stage_inReset (e : Entry) : (s.stage e).inReset = s.inReset := rfl
@[simp] theorem State.stage_sampleNo (e : Entry) : (s.stage e).sampleNo = s.sampleNo := rfl
@[simp] theorem State.stage_choiceNo (e : Entry) : (s.stage e).choiceNo = s.choiceNo := rfl
@[simp] theorem State.stage_pending (e : Entry) : (s.stage e).pending = s.pending := rfl

/-! ### State.idleCue -/

@[simp] theorem State.idleCue_lanes : (s.idleCue).lanes = s.lanes := rfl
@[simp] theorem State.idleCue_voices : (s.idleCue).voices = s.voices := rfl
@[simp] theorem State.idleCue_ageList : (s.idleCue).ageList = s.ageList := rfl
@[simp] theorem State.idleCue_releaseList : (s.idleCue).releaseList = s.releaseList := rfl
@[simp] theorem State.idleCue_queue : (s.idleCue).queue = s.queue := rfl
@[simp] theorem State.idleCue_keyMap : (s.idleCue).keyMap = s.keyMap := rfl
@[simp] theorem State.idleCue_scenes : (s.idleCue).scenes = s.scenes := rfl
@[simp] theorem State.idleCue_currentScene : (s.idleCue).currentScene = s.currentScene := rfl
@[simp] theorem State.idleCue_setlist : (s.idleCue).setlist = s.setlist := rfl
@[simp] theorem State.idleCue_cue : (s.idleCue).cue = { s.cue with armed := false, remaining := 0 } := rfl
@[simp] theorem State.idleCue_link : (s.idleCue).link = { s.link with headWaits := false } := rfl
@[simp] theorem State.idleCue_chord : (s.idleCue).chord = s.chord := rfl
@[simp] theorem State.idleCue_channels : (s.idleCue).channels = s.channels := rfl
@[simp] theorem State.idleCue_mixers : (s.idleCue).mixers = s.mixers := rfl
@[simp] theorem State.idleCue_audio : (s.idleCue).audio = s.audio := rfl
@[simp] theorem State.idleCue_clock : (s.idleCue).clock = s.clock := rfl
@[simp] theorem State.idleCue_notices : (s.idleCue).notices = s.notices := rfl
@[simp] theorem State.idleCue_pedals : (s.idleCue).pedals = s.pedals := rfl
@[simp] theorem State.idleCue_port : (s.idleCue).port = s.port := rfl
@[simp] theorem State.idleCue_hold : (s.idleCue).hold = s.hold := rfl
@[simp] theorem State.idleCue_inReset : (s.idleCue).inReset = s.inReset := rfl
@[simp] theorem State.idleCue_sampleNo : (s.idleCue).sampleNo = s.sampleNo := rfl
@[simp] theorem State.idleCue_choiceNo : (s.idleCue).choiceNo = s.choiceNo := rfl
@[simp] theorem State.idleCue_pending : (s.idleCue).pending = s.pending := rfl

/-! ### State.setSdo -/

@[simp] theorem State.setSdo_lanes (b : List Byte) : (s.setSdo b).lanes = s.lanes := rfl
@[simp] theorem State.setSdo_voices (b : List Byte) : (s.setSdo b).voices = s.voices := rfl
@[simp] theorem State.setSdo_ageList (b : List Byte) : (s.setSdo b).ageList = s.ageList := rfl
@[simp] theorem State.setSdo_releaseList (b : List Byte) : (s.setSdo b).releaseList = s.releaseList := rfl
@[simp] theorem State.setSdo_queue (b : List Byte) : (s.setSdo b).queue = s.queue := rfl
@[simp] theorem State.setSdo_keyMap (b : List Byte) : (s.setSdo b).keyMap = s.keyMap := rfl
@[simp] theorem State.setSdo_scenes (b : List Byte) : (s.setSdo b).scenes = s.scenes := rfl
@[simp] theorem State.setSdo_currentScene (b : List Byte) : (s.setSdo b).currentScene = s.currentScene := rfl
@[simp] theorem State.setSdo_setlist (b : List Byte) : (s.setSdo b).setlist = s.setlist := rfl
@[simp] theorem State.setSdo_cue (b : List Byte) : (s.setSdo b).cue = s.cue := rfl
@[simp] theorem State.setSdo_link (b : List Byte) : (s.setSdo b).link = s.link := rfl
@[simp] theorem State.setSdo_chord (b : List Byte) : (s.setSdo b).chord = s.chord := rfl
@[simp] theorem State.setSdo_channels (b : List Byte) : (s.setSdo b).channels = s.channels := rfl
@[simp] theorem State.setSdo_mixers (b : List Byte) : (s.setSdo b).mixers = s.mixers := rfl
@[simp] theorem State.setSdo_audio (b : List Byte) : (s.setSdo b).audio = s.audio := rfl
@[simp] theorem State.setSdo_clock (b : List Byte) : (s.setSdo b).clock = s.clock := rfl
@[simp] theorem State.setSdo_notices (b : List Byte) : (s.setSdo b).notices = s.notices := rfl
@[simp] theorem State.setSdo_pedals (b : List Byte) : (s.setSdo b).pedals = s.pedals := rfl
@[simp] theorem State.setSdo_port (b : List Byte) : (s.setSdo b).port = { s.port with sdo := b } := rfl
@[simp] theorem State.setSdo_hold (b : List Byte) : (s.setSdo b).hold = s.hold := rfl
@[simp] theorem State.setSdo_inReset (b : List Byte) : (s.setSdo b).inReset = s.inReset := rfl
@[simp] theorem State.setSdo_sampleNo (b : List Byte) : (s.setSdo b).sampleNo = s.sampleNo := rfl
@[simp] theorem State.setSdo_choiceNo (b : List Byte) : (s.setSdo b).choiceNo = s.choiceNo := rfl
@[simp] theorem State.setSdo_pending (b : List Byte) : (s.setSdo b).pending = s.pending := rfl

/-! ### State.completeDone -/

@[simp] theorem State.completeDone_lanes (b : List Byte) : (s.completeDone b).lanes = s.lanes := rfl
@[simp] theorem State.completeDone_voices (b : List Byte) : (s.completeDone b).voices = s.voices := rfl
@[simp] theorem State.completeDone_ageList (b : List Byte) : (s.completeDone b).ageList = s.ageList := rfl
@[simp] theorem State.completeDone_releaseList (b : List Byte) : (s.completeDone b).releaseList = s.releaseList := rfl
@[simp] theorem State.completeDone_queue (b : List Byte) : (s.completeDone b).queue = s.queue := rfl
@[simp] theorem State.completeDone_keyMap (b : List Byte) : (s.completeDone b).keyMap = s.keyMap := rfl
@[simp] theorem State.completeDone_scenes (b : List Byte) : (s.completeDone b).scenes = s.scenes := rfl
@[simp] theorem State.completeDone_currentScene (b : List Byte) :
    (s.completeDone b).currentScene =
      s.currentScene := rfl
@[simp] theorem State.completeDone_setlist (b : List Byte) : (s.completeDone b).setlist = s.setlist := rfl
@[simp] theorem State.completeDone_cue (b : List Byte) : (s.completeDone b).cue = s.cue := rfl
@[simp] theorem State.completeDone_link (b : List Byte) : (s.completeDone b).link = s.link := rfl
@[simp] theorem State.completeDone_chord (b : List Byte) : (s.completeDone b).chord = s.chord := rfl
@[simp] theorem State.completeDone_channels (b : List Byte) : (s.completeDone b).channels = s.channels := rfl
@[simp] theorem State.completeDone_mixers (b : List Byte) : (s.completeDone b).mixers = s.mixers := rfl
@[simp] theorem State.completeDone_audio (b : List Byte) : (s.completeDone b).audio = s.audio := rfl
@[simp] theorem State.completeDone_clock (b : List Byte) : (s.completeDone b).clock = s.clock := rfl
@[simp] theorem State.completeDone_notices (b : List Byte) : (s.completeDone b).notices = s.notices := rfl
@[simp] theorem State.completeDone_pedals (b : List Byte) : (s.completeDone b).pedals = s.pedals := rfl
@[simp] theorem State.completeDone_port (b : List Byte) :
    (s.completeDone b).port =
      { s.port with executing := none, resultReady := true, result := { completion := .done, bytes := b } } := rfl
@[simp] theorem State.completeDone_hold (b : List Byte) : (s.completeDone b).hold = s.hold := rfl
@[simp] theorem State.completeDone_inReset (b : List Byte) : (s.completeDone b).inReset = s.inReset := rfl
@[simp] theorem State.completeDone_sampleNo (b : List Byte) : (s.completeDone b).sampleNo = s.sampleNo := rfl
@[simp] theorem State.completeDone_choiceNo (b : List Byte) : (s.completeDone b).choiceNo = s.choiceNo := rfl
@[simp] theorem State.completeDone_pending (b : List Byte) : (s.completeDone b).pending = s.pending := rfl

/-! ### State.completeRefused -/

@[simp] theorem State.completeRefused_lanes (b : Byte) (c : RefusalCode) (d : Nat) :
    (s.completeRefused b c d).lanes =
      s.lanes := rfl
@[simp] theorem State.completeRefused_voices (b : Byte) (c : RefusalCode) (d : Nat) :
    (s.completeRefused b c d).voices =
      s.voices := rfl
@[simp] theorem State.completeRefused_ageList (b : Byte) (c : RefusalCode) (d : Nat) :
    (s.completeRefused b c d).ageList =
      s.ageList := rfl
@[simp] theorem State.completeRefused_releaseList (b : Byte) (c : RefusalCode) (d : Nat) :
    (s.completeRefused b c d).releaseList =
      s.releaseList := rfl
@[simp] theorem State.completeRefused_queue (b : Byte) (c : RefusalCode) (d : Nat) :
    (s.completeRefused b c d).queue =
      s.queue := rfl
@[simp] theorem State.completeRefused_keyMap (b : Byte) (c : RefusalCode) (d : Nat) :
    (s.completeRefused b c d).keyMap =
      s.keyMap := rfl
@[simp] theorem State.completeRefused_scenes (b : Byte) (c : RefusalCode) (d : Nat) :
    (s.completeRefused b c d).scenes =
      s.scenes := rfl
@[simp] theorem State.completeRefused_currentScene (b : Byte) (c : RefusalCode) (d : Nat) :
    (s.completeRefused b c d).currentScene =
      s.currentScene := rfl
@[simp] theorem State.completeRefused_setlist (b : Byte) (c : RefusalCode) (d : Nat) :
    (s.completeRefused b c d).setlist =
      s.setlist := rfl
@[simp] theorem State.completeRefused_cue (b : Byte) (c : RefusalCode) (d : Nat) :
    (s.completeRefused b c d).cue =
      s.cue := rfl
@[simp] theorem State.completeRefused_link (b : Byte) (c : RefusalCode) (d : Nat) :
    (s.completeRefused b c d).link =
      s.link := rfl
@[simp] theorem State.completeRefused_chord (b : Byte) (c : RefusalCode) (d : Nat) :
    (s.completeRefused b c d).chord =
      s.chord := rfl
@[simp] theorem State.completeRefused_channels (b : Byte) (c : RefusalCode) (d : Nat) :
    (s.completeRefused b c d).channels =
      s.channels := rfl
@[simp] theorem State.completeRefused_mixers (b : Byte) (c : RefusalCode) (d : Nat) :
    (s.completeRefused b c d).mixers =
      s.mixers := rfl
@[simp] theorem State.completeRefused_audio (b : Byte) (c : RefusalCode) (d : Nat) :
    (s.completeRefused b c d).audio =
      s.audio := rfl
@[simp] theorem State.completeRefused_clock (b : Byte) (c : RefusalCode) (d : Nat) :
    (s.completeRefused b c d).clock =
      s.clock := rfl
@[simp] theorem State.completeRefused_notices (b : Byte) (c : RefusalCode) (d : Nat) :
    (s.completeRefused b c d).notices =
      s.notices := rfl
@[simp] theorem State.completeRefused_pedals (b : Byte) (c : RefusalCode) (d : Nat) :
    (s.completeRefused b c d).pedals =
      s.pedals := rfl
@[simp] theorem State.completeRefused_port (b : Byte) (c : RefusalCode) (d : Nat) :
    (s.completeRefused b c d).port =
      { s.port with executing := none, resultReady := true, refusal := refusalOf b c d, result := { completion := .refused, bytes := (refusalOf b c d).bytes } } := rfl
@[simp] theorem State.completeRefused_hold (b : Byte) (c : RefusalCode) (d : Nat) :
    (s.completeRefused b c d).hold =
      s.hold := rfl
@[simp] theorem State.completeRefused_inReset (b : Byte) (c : RefusalCode) (d : Nat) :
    (s.completeRefused b c d).inReset =
      s.inReset := rfl
@[simp] theorem State.completeRefused_sampleNo (b : Byte) (c : RefusalCode) (d : Nat) :
    (s.completeRefused b c d).sampleNo =
      s.sampleNo := rfl
@[simp] theorem State.completeRefused_choiceNo (b : Byte) (c : RefusalCode) (d : Nat) :
    (s.completeRefused b c d).choiceNo =
      s.choiceNo := rfl
@[simp] theorem State.completeRefused_pending (b : Byte) (c : RefusalCode) (d : Nat) :
    (s.completeRefused b c d).pending =
      s.pending := rfl

/-! ### State.storeSettings -/

@[simp] theorem State.storeSettings_lanes (k : LaneId) (st : LaneSettings) :
    (s.storeSettings k st).lanes =
      s.lanes.set k { s.lanes[k] with settings := st } := rfl
@[simp] theorem State.storeSettings_voices (k : LaneId) (st : LaneSettings) :
    (s.storeSettings k st).voices =
      s.voices := rfl
@[simp] theorem State.storeSettings_ageList (k : LaneId) (st : LaneSettings) :
    (s.storeSettings k st).ageList =
      s.ageList := rfl
@[simp] theorem State.storeSettings_releaseList (k : LaneId) (st : LaneSettings) :
    (s.storeSettings k st).releaseList =
      s.releaseList := rfl
@[simp] theorem State.storeSettings_queue (k : LaneId) (st : LaneSettings) :
    (s.storeSettings k st).queue =
      s.queue := rfl
@[simp] theorem State.storeSettings_keyMap (k : LaneId) (st : LaneSettings) :
    (s.storeSettings k st).keyMap =
      s.keyMap := rfl
@[simp] theorem State.storeSettings_scenes (k : LaneId) (st : LaneSettings) :
    (s.storeSettings k st).scenes =
      s.scenes := rfl
@[simp] theorem State.storeSettings_currentScene (k : LaneId) (st : LaneSettings) :
    (s.storeSettings k st).currentScene =
      s.currentScene := rfl
@[simp] theorem State.storeSettings_setlist (k : LaneId) (st : LaneSettings) :
    (s.storeSettings k st).setlist =
      s.setlist := rfl
@[simp] theorem State.storeSettings_cue (k : LaneId) (st : LaneSettings) : (s.storeSettings k st).cue = s.cue := rfl
@[simp] theorem State.storeSettings_link (k : LaneId) (st : LaneSettings) : (s.storeSettings k st).link = s.link := rfl
@[simp] theorem State.storeSettings_chord (k : LaneId) (st : LaneSettings) :
    (s.storeSettings k st).chord =
      s.chord := rfl
@[simp] theorem State.storeSettings_channels (k : LaneId) (st : LaneSettings) :
    (s.storeSettings k st).channels =
      s.channels := rfl
@[simp] theorem State.storeSettings_mixers (k : LaneId) (st : LaneSettings) :
    (s.storeSettings k st).mixers =
      s.mixers.set k (retarget s.mixers[k] st) := rfl
@[simp] theorem State.storeSettings_audio (k : LaneId) (st : LaneSettings) :
    (s.storeSettings k st).audio =
      s.audio := rfl
@[simp] theorem State.storeSettings_clock (k : LaneId) (st : LaneSettings) :
    (s.storeSettings k st).clock =
      s.clock := rfl
@[simp] theorem State.storeSettings_notices (k : LaneId) (st : LaneSettings) :
    (s.storeSettings k st).notices =
      s.notices := rfl
@[simp] theorem State.storeSettings_pedals (k : LaneId) (st : LaneSettings) :
    (s.storeSettings k st).pedals =
      s.pedals := rfl
@[simp] theorem State.storeSettings_port (k : LaneId) (st : LaneSettings) : (s.storeSettings k st).port = s.port := rfl
@[simp] theorem State.storeSettings_hold (k : LaneId) (st : LaneSettings) : (s.storeSettings k st).hold = s.hold := rfl
@[simp] theorem State.storeSettings_inReset (k : LaneId) (st : LaneSettings) :
    (s.storeSettings k st).inReset =
      s.inReset := rfl
@[simp] theorem State.storeSettings_sampleNo (k : LaneId) (st : LaneSettings) :
    (s.storeSettings k st).sampleNo =
      s.sampleNo := rfl
@[simp] theorem State.storeSettings_choiceNo (k : LaneId) (st : LaneSettings) :
    (s.storeSettings k st).choiceNo =
      s.choiceNo := rfl
@[simp] theorem State.storeSettings_pending (k : LaneId) (st : LaneSettings) :
    (s.storeSettings k st).pending =
      s.pending := rfl

/-! ### State.mapLaneVoices -/

@[simp] theorem State.mapLaneVoices_lanes (k : LaneId) (g : Voice → Voice) :
    (s.mapLaneVoices k g).lanes =
      s.lanes := rfl
@[simp] theorem State.mapLaneVoices_voices (k : LaneId) (g : Voice → Voice) :
    (s.mapLaneVoices k g).voices =
      s.voices.map fun v => if v.template.lane = k then g v else v := rfl
@[simp] theorem State.mapLaneVoices_ageList (k : LaneId) (g : Voice → Voice) :
    (s.mapLaneVoices k g).ageList =
      s.ageList := rfl
@[simp] theorem State.mapLaneVoices_releaseList (k : LaneId) (g : Voice → Voice) :
    (s.mapLaneVoices k g).releaseList =
      s.releaseList := rfl
@[simp] theorem State.mapLaneVoices_queue (k : LaneId) (g : Voice → Voice) :
    (s.mapLaneVoices k g).queue =
      s.queue := rfl
@[simp] theorem State.mapLaneVoices_keyMap (k : LaneId) (g : Voice → Voice) :
    (s.mapLaneVoices k g).keyMap =
      s.keyMap := rfl
@[simp] theorem State.mapLaneVoices_scenes (k : LaneId) (g : Voice → Voice) :
    (s.mapLaneVoices k g).scenes =
      s.scenes := rfl
@[simp] theorem State.mapLaneVoices_currentScene (k : LaneId) (g : Voice → Voice) :
    (s.mapLaneVoices k g).currentScene =
      s.currentScene := rfl
@[simp] theorem State.mapLaneVoices_setlist (k : LaneId) (g : Voice → Voice) :
    (s.mapLaneVoices k g).setlist =
      s.setlist := rfl
@[simp] theorem State.mapLaneVoices_cue (k : LaneId) (g : Voice → Voice) : (s.mapLaneVoices k g).cue = s.cue := rfl
@[simp] theorem State.mapLaneVoices_link (k : LaneId) (g : Voice → Voice) : (s.mapLaneVoices k g).link = s.link := rfl
@[simp] theorem State.mapLaneVoices_chord (k : LaneId) (g : Voice → Voice) :
    (s.mapLaneVoices k g).chord =
      s.chord := rfl
@[simp] theorem State.mapLaneVoices_channels (k : LaneId) (g : Voice → Voice) :
    (s.mapLaneVoices k g).channels =
      s.channels := rfl
@[simp] theorem State.mapLaneVoices_mixers (k : LaneId) (g : Voice → Voice) :
    (s.mapLaneVoices k g).mixers =
      s.mixers := rfl
@[simp] theorem State.mapLaneVoices_audio (k : LaneId) (g : Voice → Voice) :
    (s.mapLaneVoices k g).audio =
      s.audio := rfl
@[simp] theorem State.mapLaneVoices_clock (k : LaneId) (g : Voice → Voice) :
    (s.mapLaneVoices k g).clock =
      s.clock := rfl
@[simp] theorem State.mapLaneVoices_notices (k : LaneId) (g : Voice → Voice) :
    (s.mapLaneVoices k g).notices =
      s.notices := rfl
@[simp] theorem State.mapLaneVoices_pedals (k : LaneId) (g : Voice → Voice) :
    (s.mapLaneVoices k g).pedals =
      s.pedals := rfl
@[simp] theorem State.mapLaneVoices_port (k : LaneId) (g : Voice → Voice) : (s.mapLaneVoices k g).port = s.port := rfl
@[simp] theorem State.mapLaneVoices_hold (k : LaneId) (g : Voice → Voice) : (s.mapLaneVoices k g).hold = s.hold := rfl
@[simp] theorem State.mapLaneVoices_inReset (k : LaneId) (g : Voice → Voice) :
    (s.mapLaneVoices k g).inReset =
      s.inReset := rfl
@[simp] theorem State.mapLaneVoices_sampleNo (k : LaneId) (g : Voice → Voice) :
    (s.mapLaneVoices k g).sampleNo =
      s.sampleNo := rfl
@[simp] theorem State.mapLaneVoices_choiceNo (k : LaneId) (g : Voice → Voice) :
    (s.mapLaneVoices k g).choiceNo =
      s.choiceNo := rfl
@[simp] theorem State.mapLaneVoices_pending (k : LaneId) (g : Voice → Voice) :
    (s.mapLaneVoices k g).pending =
      s.pending := rfl

/-! ### State.setPartial -/

@[simp] theorem State.setPartial_lanes (b : List Byte) : (s.setPartial b).lanes = s.lanes := rfl
@[simp] theorem State.setPartial_voices (b : List Byte) : (s.setPartial b).voices = s.voices := rfl
@[simp] theorem State.setPartial_ageList (b : List Byte) : (s.setPartial b).ageList = s.ageList := rfl
@[simp] theorem State.setPartial_releaseList (b : List Byte) : (s.setPartial b).releaseList = s.releaseList := rfl
@[simp] theorem State.setPartial_queue (b : List Byte) : (s.setPartial b).queue = s.queue := rfl
@[simp] theorem State.setPartial_keyMap (b : List Byte) : (s.setPartial b).keyMap = s.keyMap := rfl
@[simp] theorem State.setPartial_scenes (b : List Byte) : (s.setPartial b).scenes = s.scenes := rfl
@[simp] theorem State.setPartial_currentScene (b : List Byte) : (s.setPartial b).currentScene = s.currentScene := rfl
@[simp] theorem State.setPartial_setlist (b : List Byte) : (s.setPartial b).setlist = s.setlist := rfl
@[simp] theorem State.setPartial_cue (b : List Byte) : (s.setPartial b).cue = s.cue := rfl
@[simp] theorem State.setPartial_link (b : List Byte) : (s.setPartial b).link = { s.link with partialBytes := b } := rfl
@[simp] theorem State.setPartial_chord (b : List Byte) : (s.setPartial b).chord = s.chord := rfl
@[simp] theorem State.setPartial_channels (b : List Byte) : (s.setPartial b).channels = s.channels := rfl
@[simp] theorem State.setPartial_mixers (b : List Byte) : (s.setPartial b).mixers = s.mixers := rfl
@[simp] theorem State.setPartial_audio (b : List Byte) : (s.setPartial b).audio = s.audio := rfl
@[simp] theorem State.setPartial_clock (b : List Byte) : (s.setPartial b).clock = s.clock := rfl
@[simp] theorem State.setPartial_notices (b : List Byte) : (s.setPartial b).notices = s.notices := rfl
@[simp] theorem State.setPartial_pedals (b : List Byte) : (s.setPartial b).pedals = s.pedals := rfl
@[simp] theorem State.setPartial_port (b : List Byte) : (s.setPartial b).port = s.port := rfl
@[simp] theorem State.setPartial_hold (b : List Byte) : (s.setPartial b).hold = s.hold := rfl
@[simp] theorem State.setPartial_inReset (b : List Byte) : (s.setPartial b).inReset = s.inReset := rfl
@[simp] theorem State.setPartial_sampleNo (b : List Byte) : (s.setPartial b).sampleNo = s.sampleNo := rfl
@[simp] theorem State.setPartial_choiceNo (b : List Byte) : (s.setPartial b).choiceNo = s.choiceNo := rfl
@[simp] theorem State.setPartial_pending (b : List Byte) : (s.setPartial b).pending = s.pending := rfl

/-! ### State.setFifo -/

@[simp] theorem State.setFifo_lanes (q : List CueMessage) : (s.setFifo q).lanes = s.lanes := rfl
@[simp] theorem State.setFifo_voices (q : List CueMessage) : (s.setFifo q).voices = s.voices := rfl
@[simp] theorem State.setFifo_ageList (q : List CueMessage) : (s.setFifo q).ageList = s.ageList := rfl
@[simp] theorem State.setFifo_releaseList (q : List CueMessage) : (s.setFifo q).releaseList = s.releaseList := rfl
@[simp] theorem State.setFifo_queue (q : List CueMessage) : (s.setFifo q).queue = s.queue := rfl
@[simp] theorem State.setFifo_keyMap (q : List CueMessage) : (s.setFifo q).keyMap = s.keyMap := rfl
@[simp] theorem State.setFifo_scenes (q : List CueMessage) : (s.setFifo q).scenes = s.scenes := rfl
@[simp] theorem State.setFifo_currentScene (q : List CueMessage) : (s.setFifo q).currentScene = s.currentScene := rfl
@[simp] theorem State.setFifo_setlist (q : List CueMessage) : (s.setFifo q).setlist = s.setlist := rfl
@[simp] theorem State.setFifo_cue (q : List CueMessage) : (s.setFifo q).cue = s.cue := rfl
@[simp] theorem State.setFifo_link (q : List CueMessage) :
    (s.setFifo q).link =
      { s.link with fifo := q, hold := holdAfter q.length s.link.hold } := rfl
@[simp] theorem State.setFifo_chord (q : List CueMessage) : (s.setFifo q).chord = s.chord := rfl
@[simp] theorem State.setFifo_channels (q : List CueMessage) : (s.setFifo q).channels = s.channels := rfl
@[simp] theorem State.setFifo_mixers (q : List CueMessage) : (s.setFifo q).mixers = s.mixers := rfl
@[simp] theorem State.setFifo_audio (q : List CueMessage) : (s.setFifo q).audio = s.audio := rfl
@[simp] theorem State.setFifo_clock (q : List CueMessage) : (s.setFifo q).clock = s.clock := rfl
@[simp] theorem State.setFifo_notices (q : List CueMessage) : (s.setFifo q).notices = s.notices := rfl
@[simp] theorem State.setFifo_pedals (q : List CueMessage) : (s.setFifo q).pedals = s.pedals := rfl
@[simp] theorem State.setFifo_port (q : List CueMessage) : (s.setFifo q).port = s.port := rfl
@[simp] theorem State.setFifo_hold (q : List CueMessage) : (s.setFifo q).hold = s.hold := rfl
@[simp] theorem State.setFifo_inReset (q : List CueMessage) : (s.setFifo q).inReset = s.inReset := rfl
@[simp] theorem State.setFifo_sampleNo (q : List CueMessage) : (s.setFifo q).sampleNo = s.sampleNo := rfl
@[simp] theorem State.setFifo_choiceNo (q : List CueMessage) : (s.setFifo q).choiceNo = s.choiceNo := rfl
@[simp] theorem State.setFifo_pending (q : List CueMessage) : (s.setFifo q).pending = s.pending := rfl

/-! ### State.waitHead -/

@[simp] theorem State.waitHead_lanes : (s.waitHead).lanes = s.lanes := rfl
@[simp] theorem State.waitHead_voices : (s.waitHead).voices = s.voices := rfl
@[simp] theorem State.waitHead_ageList : (s.waitHead).ageList = s.ageList := rfl
@[simp] theorem State.waitHead_releaseList : (s.waitHead).releaseList = s.releaseList := rfl
@[simp] theorem State.waitHead_queue : (s.waitHead).queue = s.queue := rfl
@[simp] theorem State.waitHead_keyMap : (s.waitHead).keyMap = s.keyMap := rfl
@[simp] theorem State.waitHead_scenes : (s.waitHead).scenes = s.scenes := rfl
@[simp] theorem State.waitHead_currentScene : (s.waitHead).currentScene = s.currentScene := rfl
@[simp] theorem State.waitHead_setlist : (s.waitHead).setlist = s.setlist := rfl
@[simp] theorem State.waitHead_cue : (s.waitHead).cue = s.cue := rfl
@[simp] theorem State.waitHead_link : (s.waitHead).link = { s.link with headWaits := true } := rfl
@[simp] theorem State.waitHead_chord : (s.waitHead).chord = s.chord := rfl
@[simp] theorem State.waitHead_channels : (s.waitHead).channels = s.channels := rfl
@[simp] theorem State.waitHead_mixers : (s.waitHead).mixers = s.mixers := rfl
@[simp] theorem State.waitHead_audio : (s.waitHead).audio = s.audio := rfl
@[simp] theorem State.waitHead_clock : (s.waitHead).clock = s.clock := rfl
@[simp] theorem State.waitHead_notices : (s.waitHead).notices = s.notices := rfl
@[simp] theorem State.waitHead_pedals : (s.waitHead).pedals = s.pedals := rfl
@[simp] theorem State.waitHead_port : (s.waitHead).port = s.port := rfl
@[simp] theorem State.waitHead_hold : (s.waitHead).hold = s.hold := rfl
@[simp] theorem State.waitHead_inReset : (s.waitHead).inReset = s.inReset := rfl
@[simp] theorem State.waitHead_sampleNo : (s.waitHead).sampleNo = s.sampleNo := rfl
@[simp] theorem State.waitHead_choiceNo : (s.waitHead).choiceNo = s.choiceNo := rfl
@[simp] theorem State.waitHead_pending : (s.waitHead).pending = s.pending := rfl

/-! ### State.lineHigh -/

@[simp] theorem State.lineHigh_lanes : (s.lineHigh).lanes = s.lanes := rfl
@[simp] theorem State.lineHigh_voices : (s.lineHigh).voices = s.voices := rfl
@[simp] theorem State.lineHigh_ageList : (s.lineHigh).ageList = s.ageList := rfl
@[simp] theorem State.lineHigh_releaseList : (s.lineHigh).releaseList = s.releaseList := rfl
@[simp] theorem State.lineHigh_queue : (s.lineHigh).queue = s.queue := rfl
@[simp] theorem State.lineHigh_keyMap : (s.lineHigh).keyMap = s.keyMap := rfl
@[simp] theorem State.lineHigh_scenes : (s.lineHigh).scenes = s.scenes := rfl
@[simp] theorem State.lineHigh_currentScene : (s.lineHigh).currentScene = s.currentScene := rfl
@[simp] theorem State.lineHigh_setlist : (s.lineHigh).setlist = s.setlist := rfl
@[simp] theorem State.lineHigh_cue : (s.lineHigh).cue = s.cue := rfl
@[simp] theorem State.lineHigh_link : (s.lineHigh).link = { s.link with line := .idle, partialBytes := [] } := rfl
@[simp] theorem State.lineHigh_chord : (s.lineHigh).chord = s.chord := rfl
@[simp] theorem State.lineHigh_channels : (s.lineHigh).channels = s.channels := rfl
@[simp] theorem State.lineHigh_mixers : (s.lineHigh).mixers = s.mixers := rfl
@[simp] theorem State.lineHigh_audio : (s.lineHigh).audio = s.audio := rfl
@[simp] theorem State.lineHigh_clock : (s.lineHigh).clock = s.clock := rfl
@[simp] theorem State.lineHigh_notices : (s.lineHigh).notices = s.notices := rfl
@[simp] theorem State.lineHigh_pedals : (s.lineHigh).pedals = s.pedals := rfl
@[simp] theorem State.lineHigh_port : (s.lineHigh).port = s.port := rfl
@[simp] theorem State.lineHigh_hold : (s.lineHigh).hold = s.hold := rfl
@[simp] theorem State.lineHigh_inReset : (s.lineHigh).inReset = s.inReset := rfl
@[simp] theorem State.lineHigh_sampleNo : (s.lineHigh).sampleNo = s.sampleNo := rfl
@[simp] theorem State.lineHigh_choiceNo : (s.lineHigh).choiceNo = s.choiceNo := rfl
@[simp] theorem State.lineHigh_pending : (s.lineHigh).pending = s.pending := rfl

/-! ### State.setLine -/

@[simp] theorem State.setLine_lanes (line : Line) : (s.setLine line).lanes = s.lanes := rfl
@[simp] theorem State.setLine_voices (line : Line) : (s.setLine line).voices = s.voices := rfl
@[simp] theorem State.setLine_ageList (line : Line) : (s.setLine line).ageList = s.ageList := rfl
@[simp] theorem State.setLine_releaseList (line : Line) : (s.setLine line).releaseList = s.releaseList := rfl
@[simp] theorem State.setLine_queue (line : Line) : (s.setLine line).queue = s.queue := rfl
@[simp] theorem State.setLine_keyMap (line : Line) : (s.setLine line).keyMap = s.keyMap := rfl
@[simp] theorem State.setLine_scenes (line : Line) : (s.setLine line).scenes = s.scenes := rfl
@[simp] theorem State.setLine_currentScene (line : Line) : (s.setLine line).currentScene = s.currentScene := rfl
@[simp] theorem State.setLine_setlist (line : Line) : (s.setLine line).setlist = s.setlist := rfl
@[simp] theorem State.setLine_cue (line : Line) : (s.setLine line).cue = s.cue := rfl
@[simp] theorem State.setLine_link (line : Line) : (s.setLine line).link = { s.link with line := line } := rfl
@[simp] theorem State.setLine_chord (line : Line) : (s.setLine line).chord = s.chord := rfl
@[simp] theorem State.setLine_channels (line : Line) : (s.setLine line).channels = s.channels := rfl
@[simp] theorem State.setLine_mixers (line : Line) : (s.setLine line).mixers = s.mixers := rfl
@[simp] theorem State.setLine_audio (line : Line) : (s.setLine line).audio = s.audio := rfl
@[simp] theorem State.setLine_clock (line : Line) : (s.setLine line).clock = s.clock := rfl
@[simp] theorem State.setLine_notices (line : Line) : (s.setLine line).notices = s.notices := rfl
@[simp] theorem State.setLine_pedals (line : Line) : (s.setLine line).pedals = s.pedals := rfl
@[simp] theorem State.setLine_port (line : Line) : (s.setLine line).port = s.port := rfl
@[simp] theorem State.setLine_hold (line : Line) : (s.setLine line).hold = s.hold := rfl
@[simp] theorem State.setLine_inReset (line : Line) : (s.setLine line).inReset = s.inReset := rfl
@[simp] theorem State.setLine_sampleNo (line : Line) : (s.setLine line).sampleNo = s.sampleNo := rfl
@[simp] theorem State.setLine_choiceNo (line : Line) : (s.setLine line).choiceNo = s.choiceNo := rfl
@[simp] theorem State.setLine_pending (line : Line) : (s.setLine line).pending = s.pending := rfl

/-! ### One place of a written table -/

/-- A lane after a write to a lane. -/
theorem State.setLane_get (k j : LaneId) (l : Lane) : (s.setLane k l).lanes[j] = if k = j then l else s.lanes[j] := by
  simp [Vector.getElem_set, Fin.ext_iff]

/-- A slot after a write to a slot. -/
theorem State.setVoice_get (i j : Slot) (v : Voice) : (s.setVoice i v).voices[j] = if i = j then v else s.voices[j] := by
  simp [Vector.getElem_set, Fin.ext_iff]

/-- A channel after a write to a channel. -/
theorem State.setChannel_get (i j : Slot) (c : Channel) :
    (s.setChannel i c).channels[j] = if i = j then c else s.channels[j] := by
  simp [Vector.getElem_set, Fin.ext_iff]

/-- A mixer after a write to a mixer. -/
theorem State.setMixer_get (k j : LaneId) (m : Mixer) :
    (s.setMixer k m).mixers[j] = if k = j then m else s.mixers[j] := by
  simp [Vector.getElem_set, Fin.ext_iff]

/-- A pedal after a write to a pedal. -/
theorem State.setPedal_get (p j : PedalId) (d : Pedal) :
    (s.setPedal p d).pedals[j] = if p = j then d else s.pedals[j] := by
  simp [Vector.getElem_set, Fin.ext_iff]

/-- A scene after a write to a scene. -/
theorem State.setScene_get (n j : SceneId) (sc : Option Scene) :
    (s.setScene n sc).scenes[j] = if n = j then sc else s.scenes[j] := by
  simp [Vector.getElem_set, Fin.ext_iff]

/-- A notice record after a raise. -/
theorem State.raise_get (k : NoticeKind) (x : Nat) (j : Fin 17) :
    (s.raise k x).notices[j] = if k.number = j then raiseNotice s.notices[j] x else s.notices[j] := by
  by_cases h : k.number = j
  · subst h; simp
  · have e : k.number.val ≠ j.val := fun e => h (Fin.ext e)
    simp [h, e]

/-- A slot after a slot is freed. -/
theorem State.freeVoice_get (i j : Slot) :
    (s.freeVoice i).voices[j] = if i = j then .freeSlot s.voices[j].generation else s.voices[j] := by
  by_cases h : i = j
  · subst h; simp
  · have e : i.val ≠ j.val := fun e => h (Fin.ext e)
    simp [h, e]

/-- A channel after a cut. -/
theorem State.cut_get (i j : Slot) :
    (s.cut i).channels[j] = if i = j then cutChannel s.channels[j] else s.channels[j] := by
  by_cases h : i = j
  · subst h; simp
  · have e : i.val ≠ j.val := fun e => h (Fin.ext e)
    simp [h, e]

end Sys2Proof.Machine
end

