-- ==== Sys2Proof/Laws/Ops.lean ====
section
/-! SUPPORT. One lemma for each shared operation that says once everything it can do. Proofs cite these in place of unfolding
the operation. -/

namespace Sys2Proof.Machine

/-! ### The control port -/

/-- What a SEND frame can do (R185): OVERRUN, acceptance of the command it holds, or FRAMING; and SDO's zeros. -/
theorem State.judgeSend_cases (s : State) (bytes : List Byte) (part : Bool) :
    (s.port.executing.isSome = true ∧
      s.judgeSend bytes part =
        { s with port := { s.port with overrun := true, sdo := sdoBytes bytes.length [] } }) ∨
    (∃ c, s.port.executing = none ∧ part = false ∧ Command.ofBytes bytes = some c ∧
      s.judgeSend bytes part =
        { s with port := { s.port with executing := some c, resultReady := false,
                                       sdo := sdoBytes bytes.length [] } }) ∨
    (s.port.executing = none ∧ (part = true ∨ Command.ofBytes bytes = none) ∧
      s.judgeSend bytes part =
        { s with port := { s.port with framing := true, sdo := sdoBytes bytes.length [] } }) := by
  unfold State.judgeSend
  cases he : s.port.executing with
  | some c => left; simp [State.setSdo, he]
  | none =>
    right
    cases part with
    | true => right; simp [State.setSdo, he]
    | false =>
      cases hc : Command.ofBytes bytes with
      | none => right; simp [State.setSdo, he]
      | some c => left; exact ⟨c, by simp [State.setSdo, he]⟩

/-- The SEND frame of a command whose data phase has the declared length holds that command. -/
theorem Command.ofBytes_bytes (c : Command) (h : c.frame.data.length = c.frame.declared.toNat) :
    Command.ofBytes c.bytes = some c := by
  obtain ⟨code, declared, operands, data⟩ := c
  obtain ⟨⟨l⟩, hl⟩ := operands
  match l, hl with
  | [b2, b3, b4, b5, b6, b7], _ => simp at h; simp [Command.bytes, Command.ofBytes, h]

/-- The SDO of a SEND frame is zeros. -/
theorem sdoBytes_send (c : Command) : sdoBytes c.bytes.length [] = sendSdo c := by
  simp [sdoBytes, sendSdo, padTo, Nat.add_comm 1, List.replicate_succ]

/-- A port command's row, at the port that can take it, is the taking of the command (assumption 13). -/
theorem State.commandRow_takes {s : State} {c : Command} (h : Takes s c) (take : State → State) :
    s.commandRow c take = take (atTaking s c) := by
  obtain ⟨hr, he | ⟨he, hd⟩⟩ := h
  · simp [State.commandRow, atTaking, hr, he]
  · have hb := Command.ofBytes_bytes c hd
    simp [State.commandRow, atTaking, hr, he, State.judgeSend, State.setSdo, hb, sdoBytes_send]

/-- Everything a port command's row can do: nothing while the part is held in reset; the taking of the command; or, where the
port does not take it, what the SEND frame does. -/
theorem State.commandRow_cases (s : State) (c : Command) (take : State → State) :
    (s.inReset = true ∧ s.commandRow c take = s) ∨
    (Takes s c ∧ s.commandRow c take = take (atTaking s c)) ∨
    (s.inReset = false ∧ s.commandRow c take = s.judgeSend c.bytes false ∧
      (s.judgeSend c.bytes false).port.executing ≠ some c) := by
  by_cases hr : s.inReset = true
  · left; simp [State.commandRow, hr]
  right
  have hr' : s.inReset = false := by simpa using hr
  by_cases he : s.port.executing = some c
  · left; exact ⟨⟨hr', .inl he⟩, State.commandRow_takes ⟨hr', .inl he⟩ take⟩
  by_cases ht : (s.judgeSend c.bytes false).port.executing = some c
  · left
    obtain ⟨h1, h2⟩ | ⟨d, h1, -, h2, h3⟩ | ⟨h1, -, h2⟩ := s.judgeSend_cases c.bytes false
    · rw [h2] at ht; exact absurd ht he
    · have hd : c.frame.data.length = c.frame.declared.toNat := by
        rw [h3] at ht
        simp at ht; subst ht
        simp only [Command.bytes] at h2
        obtain ⟨code, declared, operands, data⟩ := d
        obtain ⟨⟨l⟩, hl⟩ := operands
        match l, hl with
        | [b2, b3, b4, b5, b6, b7], _ => by_contra hne; simp [Command.ofBytes] at h2 hne; exact hne h2
      exact ⟨⟨hr', .inr ⟨h1, hd⟩⟩, State.commandRow_takes ⟨hr', .inr ⟨h1, hd⟩⟩ take⟩
    · rw [h2] at ht; exact absurd ht he
  · right; exact ⟨hr', by simp [State.commandRow, hr', he, ht], ht⟩

/-- The row of a port command that is taken in one act, at the port that can take it. -/
theorem State.runCommand_takes {s : State} {c : Command} (h : Takes s c) (act : State → Answer) :
    s.runCommand c act = (atTaking s c).takeCommand c act := State.commandRow_takes h _

/-- Everything the row of a port command that is taken in one act can do. -/
theorem State.runCommand_cases (s : State) (c : Command) (act : State → Answer) :
    (s.inReset = true ∧ s.runCommand c act = s) ∨
    (Takes s c ∧ s.runCommand c act = (atTaking s c).takeCommand c act) ∨
    (s.inReset = false ∧ s.runCommand c act = s.judgeSend c.bytes false ∧
      (s.judgeSend c.bytes false).port.executing ≠ some c) := s.commandRow_cases c _

/-- Everything the taking of a RESTART can do (R173): the writing of its result after the reset act, nothing, the reset act
alone, or both in one act. -/
theorem State.takeRestart_cases (s : State) (r : RestartStep) :
    (r.frame.declared = 0 ∧ s.port.resetActMade = true ∧ r.actOnly = false ∧ s.takeRestart r = s.finishRestart) ∨
    (r.frame.declared = 0 ∧ s.port.resetActMade = true ∧ r.actOnly = true ∧ s.takeRestart r = s) ∨
    (r.frame.declared = 0 ∧ s.port.resetActMade = false ∧ r.actOnly = true ∧ s.takeRestart r = s.makeResetAct) ∨
    ((r.frame.declared ≠ 0 ∨ s.port.resetActMade = false ∧ r.actOnly = false) ∧
      s.takeRestart r = s.takeCommand ⟨0x05, r.frame⟩ answerRestart) := by
  unfold State.takeRestart
  by_cases hd : r.frame.declared = 0#8 <;> cases hm : s.port.resetActMade <;> cases ha : r.actOnly <;> simp [hd]

/-- Everything the taking of a command can do (R186): its act's completion, or a refusal. -/
theorem State.takeCommand_cases (s : State) (c : Command) (act : State → Answer) :
    (∃ n t bytes, requiredLength c.code = some n ∧ c.frame.declared.toNat = n ∧ act s = .done t bytes ∧
      s.takeCommand c act = t.completeDone bytes) ∨
    (∃ code detail, s.takeCommand c act = s.completeRefused c.code code detail) := by
  unfold State.takeCommand
  split
  · right; exact ⟨_, _, rfl⟩
  · split
    · cases ha : act s with
      | done t bytes => left; exact ⟨_, t, bytes, ‹_›, ‹_›, rfl, rfl⟩
      | refused code detail => right; exact ⟨code, detail, rfl⟩
    · right; exact ⟨_, _, rfl⟩

/-- The taking of a command with the required length is the completion of its answer. -/
theorem State.takeCommand_of_length (s : State) (c : Command) (act : State → Answer)
    (h : requiredLength c.code = some c.frame.declared.toNat) :
    s.takeCommand c act = s.complete c.code (act s) := by
  simp [State.takeCommand, h]

/-- A command that stages either answers with its answer and has a place, or is refused QUEUE_FULL with the depth (R92). -/
theorem State.withPlace_cases (s : State) (a : Answer) :
    (hasPlace s .control = true ∧ s.withPlace a = a) ∨
    (hasPlace s .control = false ∧ s.withPlace a = .refused .queueFull s.queue.length) := by
  unfold State.withPlace
  split
  · left; exact ⟨‹_›, rfl⟩
  · right; exact ⟨by simpa using ‹¬hasPlace s .control = true›, rfl⟩

/-! ### The queue's places, the armed cue -/

/-- A place for a source (R91). -/
theorem hasPlace_iff (s : State) (src : Source) :
    hasPlace s src = true ↔ s.queue.length ≤ if s.cue.armed = true ∧ src ≠ .armedCue then 14 else 15 := by
  unfold hasPlace depthLimit
  exact decide_eq_true_iff

/-- The armed cue's fire (R130, R132). -/
theorem State.fireArmed_eq (s : State) :
    s.fireArmed =
      { s with
        queue := s.queue ++ [.take s.cue.scene]
        cue := { s.cue with armed := false, remaining := 0 }
        link := { s.link with headWaits := false }
        notices := s.notices.set 11 (raiseNotice s.notices[(11 : Fin 17)] s.cue.scene.val) } := rfl

/-- The armed cue's expiry (R131). -/
theorem State.expireCue_eq (s : State) :
    s.expireCue =
      { s with
        queue := if s.cue.action = .take then s.queue ++ [.take s.cue.scene] else s.queue
        cue := { s.cue with armed := false, remaining := 0 }
        link := { s.link with headWaits := false }
        notices := s.notices.set 12 (raiseNotice s.notices[(12 : Fin 17)] s.cue.scene.val) } := by
  unfold State.expireCue
  cases h : s.cue.action <;> simp [State.idleCue, State.stage, State.raise, NoticeKind.number, h]

/-! ### The pool -/

/-- The arbiter's answer (R78, R79, R80): a FREE slot with nothing changed, or a stolen one. -/
theorem obtainSlot_cases (s : State) :
    (∃ i, lowestFree s = some i ∧ obtainSlot s = some (i, s)) ∨
    (∃ i, lowestFree s = none ∧ victim s = some i ∧ obtainSlot s = some (i, s.steal i)) ∨
    (lowestFree s = none ∧ victim s = none ∧ obtainSlot s = none) := by
  unfold obtainSlot
  cases lowestFree s with
  | some i => left; exact ⟨i, rfl, rfl⟩
  | none =>
    right
    cases victim s with
    | some i => left; exact ⟨i, rfl, rfl, rfl⟩
    | none => right; exact ⟨rfl, rfl, rfl⟩

/-- The slot of `lowestFree` is FREE, and every lower slot is occupied (R78). -/
theorem lowestFree_spec {s : State} {i : Slot} (h : lowestFree s = some i) :
    s.voices[i].state = .free := by
  have := List.find?_some h
  simpa using this

/-- Where no slot is FREE. -/
theorem lowestFree_none {s : State} (h : lowestFree s = none) (i : Slot) : s.voices[i].state ≠ .free := by
  have := List.find?_eq_none.mp h i (List.mem_finRange i)
  simpa using this

/-- The victim is BACKGROUND, on the release list, or on the age list and not PENDING (R79). -/
theorem victim_spec {s : State} {i : Slot} (h : victim s = some i) :
    s.voices[i].template.group = .background ∧
      (i ∈ s.releaseList ∨ (i ∈ s.ageList ∧ s.voices[i].state ≠ .pending)) := by
  unfold victim at h
  cases hr : (s.releaseList.find? fun i => s.voices[i].template.group = .background) with
  | some j =>
    rw [hr] at h
    simp at h; subst h
    exact ⟨by simpa using List.find?_some hr, .inl (List.mem_of_find?_eq_some hr)⟩
  | none =>
    rw [hr] at h
    simp only [HOrElse.hOrElse, OrElse.orElse, Option.orElse] at h
    have h1 := List.find?_some h
    have h2 := List.mem_of_find?_eq_some h
    simp at h1
    exact ⟨h1.1, .inr ⟨h2, h1.2⟩⟩

/-- VOICE_FREED raises touch the notice records and the model's choice counter alone. -/
theorem State.raiseFreed_frame (s : State) (slots : List Slot) :
    ∃ ns n, s.raiseFreed slots = { s with notices := ns, choiceNo := n } := by
  have fold : ∀ (l : List Slot) (t : State), ∃ ns,
      l.foldl (fun s (i : Slot) => s.raise .voiceFreed i) t = { t with notices := ns } := by
    intro l
    induction l with
    | nil => intro t; exact ⟨t.notices, rfl⟩
    | cons i l ih =>
      intro t
      obtain ⟨ns, h⟩ := ih (t.raise .voiceFreed i)
      exact ⟨ns, by simpa [State.raise] using h⟩
  match slots with
  | [] => exact ⟨s.notices, s.choiceNo, rfl⟩
  | [i] => exact ⟨_, s.choiceNo, rfl⟩
  | i :: j :: l =>
    unfold State.raiseFreed
    obtain ⟨ns, h⟩ := fold (((i :: j :: l).filter (· ≠ (i :: j :: l).getD (Config.lastFreed s.choiceNo % (i :: j :: l).length) 0)) ++
      [(i :: j :: l).getD (Config.lastFreed s.choiceNo % (i :: j :: l).length) 0]) { s with choiceNo := s.choiceNo + 1 }
    exact ⟨ns, s.choiceNo + 1, h⟩

/-- A release touches the voice, the two lists and the notices alone (R67). -/
theorem State.releaseVoice_frame (s : State) (i : Slot) :
    ∃ vs al rl ns, s.releaseVoice i = { s with voices := vs, ageList := al, releaseList := rl, notices := ns } := by
  unfold State.releaseVoice
  dsimp only
  split <;> exact ⟨_, _, _, _, rfl⟩

/-- A kill touches the voice, the two lists, its channel and the notices alone (R59). -/
theorem State.kill_frame (s : State) (i : Slot) :
    ∃ vs al rl cs ns, s.kill i =
      { s with voices := vs, ageList := al, releaseList := rl, channels := cs, notices := ns } :=
  ⟨_, _, _, _, _, rfl⟩

/-- A steal touches the voice, the two lists, its channel and the notices alone (R80). -/
theorem State.steal_frame (s : State) (i : Slot) :
    ∃ vs al rl cs ns, s.steal i =
      { s with voices := vs, ageList := al, releaseList := rl, channels := cs, notices := ns } :=
  ⟨_, _, _, _, _, rfl⟩

/-! ### The setlist -/

/-- Everything the decision of a step can come to (R122). -/
theorem decideStep_cases (l : Setlist) (ask : StepAsk) :
    (l.entries.length = 0 ∧ decideStep l ask = .empty) ∨
    (0 < l.entries.length ∧
      ((∃ p, ask = .goto p ∧ l.entries.length ≤ p ∧ decideStep l ask = .beyond) ∨
        (∃ p, p < l.entries.length + l.position ∧ decideStep l ask = .move p) ∨
        ((∀ p, ask ≠ .goto p) ∧ l.wrap = false ∧ decideStep l ask = .endReached))) := by
  by_cases h0 : l.entries.length = 0
  · left; exact ⟨h0, by simp [decideStep, List.length_eq_zero_iff.mp h0]⟩
  right
  have hp : 0 < l.entries.length := Nat.pos_of_ne_zero h0
  refine ⟨hp, ?_⟩
  unfold decideStep
  simp only [h0, if_false]
  cases ask with
  | goto p =>
    by_cases hlt : p < l.entries.length
    · right; left; exact ⟨p, by omega, by simp [hlt]⟩
    · left; exact ⟨p, rfl, by omega, by simp [hlt]⟩
  | next =>
    right
    by_cases hlt : l.position + 1 < l.entries.length
    · left; exact ⟨l.position + 1, by omega, by simp [hlt]⟩
    · cases hw : l.wrap
      · right; exact ⟨by simp, rfl, by simp [hlt]⟩
      · left; exact ⟨0, by omega, by simp [hlt]⟩
  | prev =>
    right
    by_cases hlt : 0 < l.position
    · left; exact ⟨l.position - 1, by omega, by simp [hlt]⟩
    · cases hw : l.wrap
      · right; exact ⟨by simp, rfl, by simp [hlt]⟩
      · left; exact ⟨l.entries.length - 1, by omega, by simp [hlt]⟩

/-! ### The audio side -/

/-- One word-clock period, field by field (R155, R156, R161, R164). -/
theorem State.samplePeriod_eq (s : State) :
    s.samplePeriod =
      { s with
        channels := s.channels.map fun c => advanceChannel s.clock.state (delayedInput s.audio c.lane) c
        mixers := s.mixers.map advanceMixer
        audio :=
          { delay := #v[feedLine s.audio.delay[0] 0 s.sampleNo, feedLine s.audio.delay[1] 1 s.sampleNo,
                        feedLine s.audio.delay[2] 2 s.sampleNo, feedLine s.audio.delay[3] 3 s.sampleNo]
            out := if s.clock.state = .present then
                mixOut (s.channels.map fun c => advanceChannel s.clock.state (delayedInput s.audio c.lane) c)
                  (s.mixers.map advanceMixer) (delayedInput s.audio)
              else silentOut }
        sampleNo := s.sampleNo + 1 } := rfl

/-- A run of word-clock periods touches the channels, the mixers, the audio and the sample counter alone. -/
theorem State.samplePeriods_frame (s : State) (n : Nat) :
    ∃ cs ms au, s.samplePeriods n = { s with channels := cs, mixers := ms, audio := au, sampleNo := s.sampleNo + n } := by
  induction n generalizing s with
  | zero => exact ⟨s.channels, s.mixers, s.audio, rfl⟩
  | succ n ih =>
    obtain ⟨cs, ms, au, h⟩ := ih s.samplePeriod
    exact ⟨cs, ms, au, by rw [State.samplePeriods, h, s.samplePeriod_eq, Nat.add_right_comm, Nat.add_assoc]⟩

/-- Edges that no row names touch the audio side and the supervisor's counts alone. -/
theorem State.runEdges_frame (s : State) (n : Nat) :
    ∃ cs ms au, s.runEdges n =
      { s with channels := cs, mixers := ms, audio := au, sampleNo := s.sampleNo + n, clock := countEdges n s.clock } := by
  obtain ⟨cs, ms, au, h⟩ := s.samplePeriods_frame n
  exact ⟨cs, ms, au, by simp [State.runEdges, h]⟩

/-- The supervisor's state is not changed by edges that no row names. -/
theorem countEdges_state (n : Nat) (c : Supervisor) : (countEdges n c).state = c.state := by
  unfold countEdges
  split
  · rfl
  · split <;> simp [*]

/-! ### Ramps and levels -/

/-- At its end a ramp stands at its end value (R156). -/
theorem rampAt_end (a b : Nat) : rampAt a b 256 = b := by
  have h : (((b : Int) - a) * 256).tdiv 256 = (b : Int) - a := Int.mul_tdiv_cancel _ (by decide)
  simp [rampAt, h]

/-- At its start a ramp stands at its start value (R156). -/
theorem rampAt_start (a b : Nat) : rampAt a b 0 = a := by simp [rampAt]

/-- The level step never passes its target (R43). -/
theorem levelStep_between (level target a r : Nat) :
    min level target ≤ levelStep level target a r ∧ levelStep level target a r ≤ max level target := by
  unfold levelStep
  split
  · omega
  · split <;> omega

/-- The clamp of the interval (R41). -/
theorem clampInterval_bounds (x : Int) : -2400 ≤ clampInterval x ∧ clampInterval x ≤ 2400 := by
  unfold clampInterval; omega

end Sys2Proof.Machine
end

