-- ==== Sys2Proof/Laws/Acts.lean ====
section
/-! SUPPORT. What the acts of a boundary, of a lane result, of a pedal and of a reset can touch: one lemma for each, naming the
fields it may write. -/

namespace Sys2Proof.Machine

/-! ### The application of the change queue -/

/-- `t` differs from `s` at most in what a take may change (R119): lanes, voices, lists, key map, current scene, channels,
mixers and notices. -/
def TakeFrame (s t : State) : Prop :=
  ∃ ls vs al rl km sc cs ms ns, t =
    { s with lanes := ls, voices := vs, ageList := al, releaseList := rl, keyMap := km, currentScene := sc,
             channels := cs, mixers := ms, notices := ns }

/-- Nothing changes. -/
theorem TakeFrame.refl (s : State) : TakeFrame s s := ⟨_, _, _, _, _, _, _, _, _, rfl⟩

/-- One change after another. -/
theorem TakeFrame.trans {s t u : State} : TakeFrame s t → TakeFrame t u → TakeFrame s u := by
  rintro ⟨_, _, _, _, _, _, _, _, _, rfl⟩ ⟨_, _, _, _, _, _, _, _, _, rfl⟩
  exact ⟨_, _, _, _, _, _, _, _, _, rfl⟩

/-- A fold of changes. -/
theorem TakeFrame.foldl {α : Type} (g : State → α → State) (h : ∀ s a, TakeFrame s (g s a)) (l : List α) (s : State) :
    TakeFrame s (l.foldl g s) := by
  induction l generalizing s with
  | nil => exact .refl s
  | cons a l ih => exact (h s a).trans (ih _)

/-- A release. -/
theorem State.releaseVoice_take (s : State) (i : Slot) : TakeFrame s (s.releaseVoice i) := by
  obtain ⟨_, _, _, _, h⟩ := s.releaseVoice_frame i
  exact ⟨_, _, _, _, _, _, _, _, _, h⟩

/-- A kill. -/
theorem State.kill_take (s : State) (i : Slot) : TakeFrame s (s.kill i) := ⟨_, _, _, _, _, _, _, _, _, rfl⟩

/-- A retire in either mode. -/
theorem State.retire_take (s : State) (mode : RetireMode) (i : Slot) : TakeFrame s (s.retire mode i) := by
  cases mode with
  | release => exact s.releaseVoice_take i
  | kill => unfold State.retire; dsimp only; split; exacts [.refl s, s.kill_take i]

/-- A LANE_SETTINGS change (R100). -/
theorem State.applySettings_take (s : State) (k : LaneId) (st : LaneSettings) :
    TakeFrame s (s.applySettings k st) := by
  have h1 : TakeFrame s (s.setLane k (applyMode s.lanes[k] st.on)) := ⟨_, _, _, _, _, _, _, _, _, rfl⟩
  have h2 : ∀ u : State, TakeFrame u (u.killLane k) := fun u => TakeFrame.foldl _ State.kill_take _ u
  have h3 : ∀ u : State, TakeFrame u (u.storeSettings k st) := fun u => ⟨_, _, _, _, _, _, _, _, _, rfl⟩
  have h4 : ∀ (u : State) (b a : Bool), TakeFrame u (u.freezeChange k b a) := by
    intro u b a
    unfold State.freezeChange
    split
    · exact ⟨_, _, _, _, _, _, _, _, _, rfl⟩
    · split
      · exact ⟨_, _, _, _, _, _, _, _, _, rfl⟩
      · exact .refl u
  unfold State.applySettings
  dsimp only
  split
  · exact ((h1.trans (h2 _)).trans (h3 _)).trans (h4 _ _ _)
  · exact (h1.trans (h3 _)).trans (h4 _ _ _)

/-- One template of a take (R83). -/
theorem placeTemplate_take (a : Placement) (t : Template) : TakeFrame a.state (placeTemplate a t).state := by
  have hc : ∀ u, clearTag a.state t = some u → TakeFrame a.state u := by
    intro u h
    unfold clearTag at h
    split at h
    · cases h; exact .refl _
    · split at h
      · cases h; exact State.kill_take _ _
      · cases h
  unfold placeTemplate
  split
  · exact .refl _
  · rename_i u hu
    obtain ⟨i, -, ho⟩ | ⟨i, -, -, ho⟩ | ⟨-, -, ho⟩ := obtainSlot_cases u
    · simp only [ho]
      exact (hc u hu).trans ⟨_, _, _, _, _, _, _, _, _, rfl⟩
    · simp only [ho]
      exact (hc u hu).trans ⟨_, _, _, _, _, _, _, _, _, rfl⟩
    · simp only [ho]
      exact hc u hu

/-- A TAKE (R115 to R119). -/
theorem State.applyTake_take (s : State) (n : SceneId) : TakeFrame s (s.applyTake n) := by
  have place : ∀ (l : List Template) (a : Placement), TakeFrame a.state (l.foldl placeTemplate a).state := by
    intro l
    induction l with
    | nil => intro a; exact .refl _
    | cons t l ih => intro a; exact (placeTemplate_take a t).trans (ih _)
  have act : ∀ (u : State) (i : Slot), TakeFrame u (u.activate i) := by
    intro u i; unfold State.activate; dsimp only; split
    · exact ⟨_, _, _, _, _, _, _, _, _, rfl⟩
    · exact .refl u
  have templates : ∀ (u : State) (l : List Template), TakeFrame u (u.placeTemplates l) := by
    intro u l
    unfold State.placeTemplates
    dsimp only
    have h := (place l { state := u, placed := [], skipped := 0 }).trans
      (TakeFrame.foldl State.activate act (l.foldl placeTemplate { state := u, placed := [], skipped := 0 }).placed _)
    split
    · exact h
    · exact h.trans ⟨_, _, _, _, _, _, _, _, _, rfl⟩
  unfold State.applyTake
  split
  · exact ⟨_, _, _, _, _, _, _, _, _, rfl⟩
  · rename_i sc _
    have h1 : TakeFrame s { s with keyMap := sc.keyMap } := ⟨_, _, _, _, _, _, _, _, _, rfl⟩
    have h2 : ∀ u : State, TakeFrame u (u.takeLanes sc.lanes) := fun u =>
      TakeFrame.foldl _ (fun v k => v.applySettings_take k _) _ u
    have h3 : ∀ u : State, TakeFrame u (u.retireOutgoing sc.takeMode) := fun u =>
      TakeFrame.foldl _ State.releaseVoice_take _ u
    have h := ((h1.trans (h2 _)).trans (h3 _)).trans (templates _ sc.templates)
    exact h.trans ⟨_, _, _, _, _, _, _, _, _, rfl⟩

/-- One entry (R97, R98). -/
theorem State.applyEntry_take (s : State) (e : Entry) : TakeFrame s (s.applyEntry e) := by
  have drop : ∀ h, TakeFrame s (s.dropStale h) := fun h => ⟨_, _, _, _, _, _, _, _, _, rfl⟩
  cases e with
  | create h =>
    simp only [State.applyEntry]; split
    · unfold State.activate; dsimp only; split
      · exact ⟨_, _, _, _, _, _, _, _, _, rfl⟩
      · exact .refl s
    · exact drop h
  | modify h m =>
    simp only [State.applyEntry]; split
    · unfold State.applyModify; dsimp only; split
      · exact .refl s
      · exact ⟨_, _, _, _, _, _, _, _, _, rfl⟩
    · exact drop h
  | retire h mode =>
    simp only [State.applyEntry]; split
    · exact s.retire_take mode _
    · exact drop h
  | retireLane k mode filter => exact TakeFrame.foldl _ (fun u i => u.retire_take mode i) _ s
  | laneSettings k st => exact s.applySettings_take k st
  | keyMap k => exact ⟨_, _, _, _, _, _, _, _, _, rfl⟩
  | take n => exact s.applyTake_take n

/-- The application (R96): the queue is empty after it, a waiting head is to be tried again, and beside what the entries may
change nothing does. -/
theorem State.applyQueue_frame (s : State) :
    TakeFrame { s with queue := [], link := { s.link with headWaits := false } } s.applyQueue :=
  TakeFrame.foldl _ State.applyEntry_take _ _

/-! ### A lane result -/

/-- The voices' part of a lane result (R51) touches voices, lists, channels, notices and the model's choice counter
alone. -/
theorem State.actVoices_frame (s : State) (k : LaneId) :
    ∃ vs al rl cs ns n, s.actVoices k =
      { s with voices := vs, ageList := al, releaseList := rl, channels := cs, notices := ns, choiceNo := n } := by
  have slot : ∀ (c : VoiceContext) (l : List Slot) (u : State), ∃ vs al rl cs,
      l.foldl (State.actSlot k c) u = { u with voices := vs, ageList := al, releaseList := rl, channels := cs } := by
    intro c l
    induction l with
    | nil => intro u; exact ⟨_, _, _, _, rfl⟩
    | cons i l ih =>
      intro u
      have one : ∃ vs al rl cs, State.actSlot k c u i =
          { u with voices := vs, ageList := al, releaseList := rl, channels := cs } := by
        unfold State.actSlot
        split
        · dsimp only; split <;> exact ⟨_, _, _, _, rfl⟩
        · exact ⟨_, _, _, _, rfl⟩
      obtain ⟨_, _, _, _, h1⟩ := one
      obtain ⟨_, _, _, _, h2⟩ := ih (State.actSlot k c u i)
      rw [List.foldl_cons, h2, h1]
      exact ⟨_, _, _, _, rfl⟩
  obtain ⟨vs, al, rl, cs, h1⟩ := slot (contextOf s k) (List.finRange 16) s
  obtain ⟨ns, n, h2⟩ := ((List.finRange 16).foldl (State.actSlot k (contextOf s k)) s).raiseFreed_frame
    (freedBy k (contextOf s k) s)
  exact ⟨vs, al, rl, cs, ns, n, by unfold State.actVoices; rw [h2, h1]⟩

/-- Everything a lane result can do beside the lane, its voices and the notices: fire the armed cue (R14, R130). -/
theorem State.noteArrival_cases (s : State) (k : LaneId) (arrival : Option Int) :
    (∃ note, arrival = some note ∧ s.cue.armed = true ∧ s.cue.lane = k ∧ inPitchSet s.cue.matchSet note = true ∧
      s.noteArrival k arrival = s.fireArmed) ∨
    s.noteArrival k arrival = s := by
  unfold State.noteArrival
  split
  · right; rfl
  · split
    · rename_i note h
      left
      simp [cueMatches] at h
      exact ⟨note, rfl, h.1.1, h.1.2, h.2, rfl⟩
    · right; rfl

/-! ### Render channels at a boundary -/

/-- Everything a boundary does to a channel (R158): nothing while CUTTING; SILENT with both gains 0; else PLAYING, with the shifter's
phase kept only from PLAYING. -/
theorem startRamp_cases (c : Channel) :
    (c.state = .cutting ∧ startRamp c = c) ∨
    (c.state ≠ .cutting ∧ c.endGain = 0 ∧ c.nextGain = 0 ∧ (startRamp c).state = .silent ∧ (startRamp c).startGain = 0 ∧
      (startRamp c).endGain = 0 ∧ (startRamp c).phase = 0 ∧ (startRamp c).y = 0 ∧ (startRamp c).lane = c.nextLane) ∨
    (c.state ≠ .cutting ∧ (0 < c.endGain ∨ 0 < c.nextGain) ∧ (startRamp c).state = .playing ∧
      (startRamp c).startGain = c.endGain ∧ (startRamp c).endGain = c.nextGain ∧ (startRamp c).lane = c.nextLane ∧
      (c.state = .silent → (startRamp c).phase = 0)) := by
  unfold startRamp
  by_cases hc : c.state = .cutting
  · left; simp [hc]
  · right
    by_cases hz : c.endGain = 0 ∧ c.nextGain = 0
    · left; simp [hc, hz, silenced]
    · right
      refine ⟨hc, by omega, ?_⟩
      simp only [hc, hz, if_false]
      exact ⟨trivial, trivial, trivial, trivial, fun h => by simp [h]⟩

/-! ### Resets -/

/-- Everything a reset pin's edge can do (R172): nothing, a reset that lasts, or its end. -/
theorem resetPin_cases (edge : ResetPinEdge) (s : State) :
    execResetPin edge s = .next s ∨ (∃ hold, hold ≠ .running ∧ execResetPin edge s = .next (s.holdReset hold)) ∨
    (∃ cause closed, edge = .rises closed ∧ execResetPin edge s = .next (s.hardReset cause closed)) := by
  cases edge with
  | falls =>
    unfold execResetPin State.resetPinFalls
    dsimp only
    split
    · exact .inr (.inl ⟨.pin, by simp, rfl⟩)
    · exact .inr (.inl ⟨.supply true, by simp, rfl⟩)
    · exact .inl rfl
    · exact .inl rfl
  | rises closed =>
    unfold execResetPin State.resetPinRises
    dsimp only
    split
    · exact .inl rfl
    · exact .inr (.inr ⟨_, closed, rfl, rfl⟩)
    · exact .inr (.inl ⟨_, by simp, rfl⟩)
    · exact .inr (.inr ⟨_, closed, rfl, rfl⟩)

/-! ### A pedal's press -/

/-- Everything a setlist step from a pedal can do (R122, R123, R93). -/
theorem State.pedalStep_cases (s : State) (p : PedalId) (ask : StepAsk) :
    (∃ x, s.pedalStep p ask = s.raise .setlistEnd x) ∨ s.pedalStep p ask = s ∨
    (∃ q, decideStep s.setlist ask = .move q ∧ hasPlace s .pedal = true ∧ s.pedalStep p ask = s.moveTo q) ∨
    (hasPlace s .pedal = false ∧ s.pedalStep p ask = s.raise .queueOverflow p.val) := by
  unfold State.pedalStep
  split
  · exact .inl ⟨0, rfl⟩
  · exact .inr (.inl rfl)
  · rename_i q hq
    split
    · exact .inr (.inr (.inl ⟨q, hq, ‹_›, rfl⟩))
    · exact .inr (.inr (.inr ⟨by simpa using ‹¬hasPlace s .pedal = true›, rfl⟩))
  · exact .inl ⟨_, rfl⟩

/-- Everything a toggle can do (R181, R93). -/
theorem State.pedalToggle_cases (s : State) (p : PedalId) (k : LaneId) (g : LaneSettings → LaneSettings) :
    (hasPlace s .pedal = true ∧ s.pedalToggle p k g = s.stage (.laneSettings k (g s.lanes[k].settings))) ∨
    (hasPlace s .pedal = false ∧ s.pedalToggle p k g = s.raise .queueOverflow p.val) := by
  unfold State.pedalToggle
  split
  · exact .inl ⟨‹_›, rfl⟩
  · exact .inr ⟨by simpa using ‹¬hasPlace s .pedal = true›, rfl⟩

/-! ### The cue link -/

/-- A receive fault touches its count and the notices alone (R141). -/
theorem State.linkFault_frame (s : State) (k : LinkFault) :
    ∃ ns, s.linkFault k =
      { s with link := { s.link with faults := countFault s.link.faults k }, notices := ns } := ⟨_, rfl⟩

/-- Everything a cue-link row can do with its samples (R137, assumption 20): nothing, the line alone, a framing fault, or its act
on the one byte that the samples bring. -/
theorem State.lineRow_cases (s : State) (samples : List Bool) (act : State → Byte → Option State) :
    s.lineRow samples act = s ∨
    (s.inReset = false ∧ ∃ line, runLine s.link.line samples = (line, []) ∧ s.lineRow samples act = s.setLine line) ∨
    (s.inReset = false ∧ (∃ line, runLine s.link.line samples = (line, [.fault])) ∧
      s.lineRow samples act = s.framingFault) ∨
    (s.inReset = false ∧ ∃ line b t, runLine s.link.line samples = (line, [.byte b]) ∧ act (s.setLine line) b = some t ∧
      s.lineRow samples act = t) := by
  unfold State.lineRow
  by_cases hr : s.inReset = true
  · left; simp [hr]
  have hr' : s.inReset = false := by simpa using hr
  rw [if_neg hr]
  split
  · rename_i line h; exact .inr (.inl ⟨hr', line, h, rfl⟩)
  · rename_i line b h
    cases ha : act (s.setLine line) b with
    | none => left; simp
    | some t => exact .inr (.inr (.inr ⟨hr', line, b, t, h, ha, by simp⟩))
  · rename_i line h; exact .inr (.inr (.inl ⟨hr', ⟨line, h⟩, rfl⟩))
  · left; rfl

/-- A run of samples after a run of samples. -/
theorem runLine_append (line : Line) (xs ys : List Bool) :
    runLine line (xs ++ ys) =
      ((runLine (runLine line xs).1 ys).1, (runLine line xs).2 ++ (runLine (runLine line xs).1 ys).2) := by
  induction xs generalizing line with
  | nil => simp [runLine]
  | cons x xs ih => simp [runLine, ih, List.append_assoc]

/-- A byte in progress takes data bits up to its eighth (R137). -/
theorem runLine_bits (got bits : List Bool) (h : got.length + bits.length ≤ 8) :
    runLine (.receiving got) bits = (.receiving (got ++ bits), []) := by
  induction bits generalizing got with
  | nil => simp [runLine]
  | cons b bits ih =>
    simp only [List.length_cons] at h
    have hl : got.length < Config.byteBits := by unfold Config.byteBits; omega
    have := ih (got ++ [b]) (by simp; omega)
    simp [runLine, sampleLine, hl, this]

/-- The data bits of a byte make the byte (R137). -/
theorem byteOfBits_lineBits (b : Byte) : byteOfBits (lineBits b) = b := by
  revert b; decide +kernel

/-- Everything a complete message can do (R140): a CHECK, CONTENT or OVERRUN fault, or a place in the FIFO. -/
theorem State.examine_cases (s : State) (a b c d : Byte) :
    (∃ k, (k = .check ∨ k = .content ∨ k = .overrun) ∧ s.examine a b c d = (s.setPartial []).linkFault k) ∨
    (∃ m, messageOf? a b = some m ∧ s.link.fifo.length < 16 ∧
      s.examine a b c d = (s.setPartial []).setFifo (s.link.fifo ++ [m])) := by
  unfold State.examine
  dsimp only
  split
  · exact .inl ⟨_, .inl rfl, rfl⟩
  · split
    · exact .inl ⟨_, .inr (.inl rfl), rfl⟩
    · rename_i m hm
      unfold State.joinFifo
      split
      · exact .inr ⟨m, hm, ‹_›, rfl⟩
      · exact .inl ⟨_, .inr (.inr rfl), rfl⟩

/-- Everything a SETLIST_STEP at the head can do (R123, R144). -/
theorem State.linkStep_cases (s : State) (forward : Bool) :
    (∃ x, s.linkStep forward = s.popHead.raise .setlistEnd x) ∨ s.linkStep forward = s ∨
    (∃ p, hasPlace s .cueLink = true ∧ s.linkStep forward = s.popHead.moveTo p) ∨
    (hasPlace s .cueLink = false ∧ s.linkStep forward = s.waitHead) := by
  unfold State.linkStep
  split
  · exact .inl ⟨0, rfl⟩
  · exact .inr (.inl rfl)
  · split
    · exact .inr (.inr (.inl ⟨_, ‹_›, rfl⟩))
    · exact .inr (.inr (.inr ⟨by simpa using ‹¬hasPlace s .cueLink = true›, rfl⟩))
  · exact .inl ⟨_, rfl⟩

end Sys2Proof.Machine
end

