-- ==== Sys2Proof/Tests/Slice0.lean ====
section
/-! SUPPORT. The model's own tests: WellFormed on ill-formed commands, the manual's worked examples and tables, and for every
statement with hypotheses a witness: concrete states and operands that meet them, clause by clause. Expected values come from
the manual's text, whose place each test names. -/

namespace Sys2Proof.Tests

open Sys2Proof.Machine

/-! ### Small states and frames -/

/-- A frame with these operands (zeros after them) and this data phase, its length declared. -/
def cmd (ops data : List Byte) : CommandFrame :=
  { declared := BitVec.ofNat 8 data.length
    operands := #v[ops.getD 0 0, ops.getD 1 0, ops.getD 2 0, ops.getD 3 0, ops.getD 4 0, ops.getD 5 0]
    data := data }

/-- Reset, with the word clock PRESENT and every lane's analysis running. -/
def playing : State :=
  { State.reset with
    lanes := Vector.replicate 4 { Lane.reset with due := true }
    clock := { State.reset.clock with state := .present, settle := 512 } }

/-- `playing` with lane 0 set so. -/
def lane0 (l : Lane) : State := { playing with lanes := playing.lanes.set 0 l }

/-- A lane that is ON, in SEARCH, with a result due. -/
def onLane : Lane :=
  { Lane.reset with settings := { Lane.reset.settings with on := true }, tracking := .search, due := true }

/-- A lane LOCKED on a pitch and note, ref 0. -/
def locked (p n : Int) : Lane := { onLane with tracking := .locked, p := p, n := n, d := p - 100 * n }

/-- Voice A of the worked case of chapter 2. -/
def templateA : Template :=
  { tag := 1, lane := 0, rule := .scale, operand := 2, fallback := 0, follow := 64, detune := -6, lo := 55, hi := 72, glide := 8,
    level := 3072, pan := 64, group := .background, attack := 32, release := 8 }

/-- A voice with voice A's template in some state. -/
def voiceIn (st : VoiceState) : Voice := { Voice.freeSlot 3 with template := templateA, state := st }

/-- Lane 0 LOCKED on A4 with a voice in slot 0 in some state, on the age list. -/
def withVoice (st : VoiceState) : State :=
  { lane0 (locked 5700 57) with
    voices := State.reset.voices.set 0 (voiceIn st), ageList := [0], releaseList := if st = .releasing then [0] else [] }

/-- D major (worked case of chapter 2). -/
def dMajor : KeyMap := { tonic := 2, members := 0xAD6, ref := 0 }

/-- The sixteen template bytes of voice A. -/
def bytesA : List Byte := [1, 0, 0, 2, 0, 64, 0xFA, 55, 72, 8, 0x0C, 0x00, 64, 1, 32, 8]

/-- A scene with one template, on an ON lane. -/
def sceneA : Scene :=
  { keyMap := .cMajor, takeMode := .clearAll, lanes := #v[⟨true, false, 4096⟩, ⟨false, false, 0⟩, ⟨false, true, 0⟩, ⟨false, false, 0⟩],
    templates := [templateA] }

/-- The state after a step's command, or the state itself where it stopped. -/
def after (o : Host.Outcome State Fault Refusal) (s : State) : State := match o with | .next t => t | .fault _ => s | .refused _ => s

/-- Whether a step answered a next state. -/
def goesOn (o : Host.Outcome State Fault Refusal) : Bool := match o with | .next _ => true | .fault _ => false | .refused _ => false

/-- `playing` with the cue ARMED on lane 0, scene 3, match set {9}, and `n` of 5 frames left. -/
def armed (n : Nat) : State :=
  { playing with cue := { armed := true, scene := 3, lane := 0, matchSet := 0x200, timeout := 5, action := .take, remaining := n } }

/-! ### WellFormed refuses ill-formed commands -/

theorem test_wellFormed_refuses_wrong_data_length :
    (Instr.readStatus { cmd [] [] with declared := 1 }).wellFormed = false ∧
    (Instr.loadScene { cmd [] [] with declared := 148 }).wellFormed = false ∧
    (Instr.loadScene (cmd [0] (List.replicate 148 0))).wellFormed = true := by decide +kernel

theorem test_wellFormed_refuses_known_code_as_unknown :
    (Instr.unknownCommand 0x20 (cmd [] [])).wellFormed = false ∧
    (Instr.unknownCommand 0x28 { cmd [] [] with declared := 2 }).wellFormed = false ∧
    (Instr.unknownCommand 0x28 (cmd [] [])).wellFormed = true := by decide

theorem test_wellFormed_refuses_transaction_byte_as_malformed :
    (Instr.malformedFrame (some 0x22) 0 none).wellFormed = false ∧
    (Instr.malformedFrame (some 0x21) 0 none).wellFormed = true := by decide

theorem test_wellFormed_refuses_no_samples :
    (Instr.pedal 0 []).wellFormed = false ∧ (Instr.pedal 0 [true]).wellFormed = true ∧
    (Instr.stray []).wellFormed = false ∧ (Instr.partialMessage []).wellFormed = false ∧
    (Instr.cueLinkMessage []).wellFormed = false ∧ (Instr.cueLinkMessage [true]).wellFormed = true := by decide

/-! ### Decoding: the command summary of R191 -/

/-- A row of the table carries no bits, so no word spells a command. -/
theorem test_no_word_spells_a_command : decodeTableWord 8 0x20 = none ∧ decodeTableWord 0 0 = none := by decide

/-- Code 20h with sixteen data bytes is CREATE VOICE: the block and template of the worked transaction of chapter 12. -/
theorem test_create_voice_frame :
    Command.ofBytes ([0x20, 0x10, 0x01, 0, 0, 0, 0, 0] ++ bytesA) = some ⟨0x20, cmd [1] bytesA⟩ ∧
    (Command.mk 0x20 (cmd [1] bytesA)).toInstr = .createVoice (cmd [1] bytesA) ∧
    (Command.mk 0x61 (cmd [] [])).toInstr = .readPedals (cmd [] []) ∧
    (Command.mk 0x32 (cmd [] [])).toInstr = .loadScene (cmd [] []) ∧
    (Command.mk 0x62 (cmd [] [])).toInstr = .unknownCommand 0x62 (cmd [] []) := by decide +kernel

/-! ### The step -/

/-- A command in front of the queue is the one that runs; `decodeTableWord` gives `withFetchWord` nothing to place. -/
theorem test_step_runs_front :
    (after (step { State.reset with pending := [.lineHighBitTime, .supplyBelowThreshold] }) .reset).link.line = .idle ∧
    (after (step { State.reset with pending := [.lineHighBitTime, .supplyBelowThreshold] }) .reset).pending =
      [.supplyBelowThreshold] ∧
    State.reset.withFetchWord 8 1 = State.reset := by decide +kernel

/-- An idle step of a PRESENT part is one word-clock edge (R167). -/
theorem test_idle_is_an_edge :
    (after (step playing) .reset).clock.period = 1 ∧ step State.reset = .next State.reset := ⟨by decide +kernel, rfl⟩

/-! ### The control port: the worked transaction of chapter 12 -/

/-- Lane 1 ON, the change queue full. -/
def fullQueue : State :=
  { playing with lanes := playing.lanes.set 1 onLane, queue := List.replicate 16 (.take 0) }

/-- The refused create: CAPACITY, 11, 20h, 16; the POLL then returns A0h, the FETCH 02h 04h 03h 0Bh 20h 10h. -/
theorem test_refused_create :
    let t := after (exec (.createVoice (cmd [1] bytesA)) fullQueue) fullQueue
    t.port.result = { completion := .refused, bytes := [0x03, 0x0B, 0x20, 0x10] } ∧
    (after (exec (.poll 1 none) t) t).port.sdo = [0, 0xA0] ∧
    (after (exec (.fetch 7 none) t) t).port.sdo = [0, 0x02, 0x04, 0x03, 0x0B, 0x20, 0x10, 0] := by decide +kernel

/-- The truncated SEND, one byte short of R185's 9 + 16 (assumption 31); the next POLL returns 81h from reset. -/
theorem test_truncated_send :
    let t := after (exec (.send (([0x20, 0x10, 0x01, 0, 0, 0, 0, 0] ++ bytesA).take 23) false none) playing) playing
    t.port.executing = none ∧ (after (exec (.poll 1 none) t) t).port.sdo = [0, 0x81] := by decide +kernel

/-- A reset act that falls after 20 SCLK edges into a FETCH of the refused create: four bits of the length 04h have gone out, and
00h follows (R190); after 7 edges nothing has, and a POLL so discarded keeps its flags. -/
theorem test_frame_across_reset :
    let t := after (exec (.createVoice (cmd [1] bytesA)) fullQueue) fullQueue
    let u := { t with port := { t.port with framing := true } }
    (after (exec (.fetch 7 (some 16)) t) t).port.sdo = [0, 0x02, 0, 0, 0, 0, 0, 0] ∧
    (after (exec (.fetch 7 (some 22)) t) t).port.sdo = [0, 0x02, 0x04, 0, 0, 0, 0, 0] ∧
    (after (exec (.poll 1 (some 12)) u) u).port.sdo = [0, 0xA0] ∧ (after (exec (.poll 1 (some 12)) u) u).port.framing = false ∧
    (after (exec (.poll 1 (some 7)) u) u).port.sdo = [0, 0] ∧ (after (exec (.poll 1 (some 7)) u) u).port.framing = true := by
  decide +kernel

/-- READ STATUS right after reset (R189): clock LOST 1, cause POWER_ON 1, sixteen voices free, current scene NONE, RESTARTED
pending. -/
theorem test_read_status :
    (after (exec (.readStatus (cmd [] [])) .reset) .reset).port.result.bytes =
      [1, 1, 0, 0, 0, 0, 0, 0, 16, 0xFF, 0, 0, 0, 1] := by decide +kernel

/-- The lengths of the command summary's results: images of 32 bytes, scene of 148, chord set of 27, pedals of 12. -/
theorem test_result_lengths :
    (after (exec (.readLane (cmd [2] [])) .reset) .reset).port.result.bytes.length = 32 ∧
    (after (exec (.readVoice (cmd [0, 3] [])) (withVoice .active)) .reset).port.result.bytes.length = 32 ∧
    (sceneBytes sceneA).length = 148 ∧
    (after (exec (.readChordSet (cmd [] [])) .reset) .reset).port.result.bytes.length = 27 ∧
    (after (exec (.readPedals (cmd [] [])) .reset) .reset).port.result.bytes.length = 12 ∧
    (after (exec (.readSetlist (cmd [] [])) .reset) .reset).port.result.bytes.length = 67 ∧
    (after (exec (.listVoices (cmd [] [])) .reset) .reset).port.result.bytes.length = 17 ∧
    (after (exec (.readKeyMap (cmd [] [])) .reset) .reset).port.result.bytes =
      [0, 0x0A, 0xB5, 0, 7, 0, 2, 4, 5, 7, 9, 11, 0, 0, 0, 0, 0] := by decide +kernel

/-- MODIFY VOICE: a level of 5000 returns 4096 (R64). -/
theorem test_modify_level_clamped :
    (after (exec (.modifyVoice (cmd [0, 3, 10, 0x13, 0x88] [])) (withVoice .active)) .reset).port.result.bytes = [0x10, 0x00] := by
  decide +kernel

/-- SET KEY MAP: a ref of +70 is returned as +50, and the tonic is added (R106). -/
theorem test_key_map_returned :
    (after (exec (.setKeyMap (cmd [2, 0, 0, 70] [])) .reset) .reset).port.result.bytes = [2, 0, 4, 50] := by decide +kernel

/-! ### Pitch arithmetic: the manual's tables -/

/-- R27's table. -/
theorem test_raw_pitch_table :
    rawPitch 512 = 7823 ∧ rawPitch 1726 = 5719 ∧ rawPitch 1745 = 5700 ∧ rawPitch 3491 = 4500 ∧ rawPitch 12800 = 2251 := by
  decide +kernel

/-- R42's table, and the ratios of the worked case of chapter 2. -/
theorem test_ratio_table :
    [-2400, -1200, -100, 0, 100, 400, 700, 1200, 2400].map ratioOf =
      [16384, 32768, 61858, 65536, 69433, 82570, 98193, 131072, 262144] ∧
    [388, 221, 261, 385].map ratioOf = [82000, 74459, 76200, 81858] := by decide +kernel

/-- R31's table in D major. -/
theorem test_scale_table :
    [(57, 1), (57, 2), (57, 3), (57, -2), (57, -7), (57, 14), (55, 2), (50, -5), (53, 2), (53, -1)].map
      (fun x : Int × Int => scaleNote dMajor x.1 x.2) = [59, 61, 62, 54, 45, 81, 59, 42, 56, 51] := by decide

/-- R33's table, pitch classes 2, 6 and 9. -/
theorem test_chord_table :
    [1, 2, 3, 4, -1, -2, -3, -4].map (chordNote 0x244 57) = [62, 66, 69, 74, 54, 50, 45, 42] ∧
    [1, 2, 3, 4, -1, -2, -3, -4].map (chordNote 0x244 55) = [57, 62, 66, 69, 54, 50, 45, 42] := by decide

/-- R37's table. -/
theorem test_follow_table :
    [(12, 64), (19, 64), (219, 64), (-1, 64), (-1, 128), (-3, 64), (-60, 32)].map (fun x : Int × Nat => followTerm x.1 x.2) =
      [6, 10, 50, 0, -1, -1, -15] := by decide

/-- R39's table: octaves folded, range 55 to 72 (the manual's 72 at +0 stays). -/
theorem test_fold_table :
    [7900, 7210, 7200, 4000, 8094, 5450].map (fun t : Int => t + 1200 * foldOctaves t 55 72) =
      [6700, 6010, 7200, 6400, 6894, 6650] := by decide

/-- R43's table: first steps and the clipped last ones. -/
theorem test_level_table :
    levelStep 0 3072 32 8 = 512 ∧ levelStep 2560 3000 32 8 = 3000 ∧ levelStep 3072 0 32 8 = 2944 ∧
    levelStep 4096 0 1 255 = 16 ∧ levelStep 16 0 1 255 = 0 ∧ levelStep 1008 1000 1 1 = 1000 := by decide

/-- The worked case of chapter 2, voice A at results 1 and 2: T, O, N_t and the ratio. -/
theorem test_voice_a :
    let c : VoiceContext := { tracking := .locked, p := 5719, n := 55, d := 219, freeze := false, keyMap := dMajor, chordSet := 0x244 }
    let before := { voiceIn .active with nt := 59, t := 5900, o := 5900, level := 3072, levelTarget := 3072 }
    let one := compute before c
    let two := compute one { c with n := 57, d := 19 }
    (one.t, one.o, one.nt, one.delta, one.ratio, one.level) = (5944, 5940, 59, 221, 74459, 3072) ∧
    (two.t, two.o, two.nt, two.delta, two.ratio) = (6104, 5980, 61, 261, 76200) := by decide +kernel

/-! ### Lanes: the worked sequence of section 1.5 -/

/-- Result 3: 4510 against 5712 is an octave slip DOWN, corrected to 5710. Tp = 3471 has P_raw 4510. -/
theorem test_octave_slip :
    let l := (takeResult { locked 5712 57 with resultCount := 2 } { voiced := true, period := 3471, confidence := 200 } 0).1
    (l.p, l.n, l.d, l.octaveDirection, l.octaveLength) = (5710, 57, 10, .down, 1) ∧
    l.correction = { raw := 4510, corrected := 5710, direction := .down, resultNumber := 3, valid := true } ∧
    l.correctionCount = 1 := by decide +kernel

/-- Results 5 and 6: confidence 40 starts the hold at 24, then the counter drops to 23. -/
theorem test_hold_counts :
    let l := (takeResult (locked 5705 57) { voiced := true, period := 1745, confidence := 40 } 0).1
    (l.tracking, l.counter, l.lastClass) = (.hold, 24, .lowConfidence) ∧
    (takeResult l { voiced := false, period := 0, confidence := 0 } 0).1.counter = 23 := by decide +kernel

/-- A voiced result in REACQUIRE is a lock, an arrival on a matching note fires the armed cue, and LANE_LOCKED and CUE_FIRED
are raised (R11, R130). -/
theorem test_arrival_fires_cue :
    let s := { armed 4 with lanes := (armed 4).lanes.set 0 { onLane with tracking := .reacquire, counter := 5 } }
    let t := after (exec (.laneResult 0 { voiced := true, period := 1745, confidence := 200 }) s) s
    t.queue = [.take 3] ∧ t.cue.armed = false ∧ t.notices[4].pending = true ∧ t.notices[11].subject = 3 := by decide +kernel

/-! ### Voices, queue, cues -/

/-- CREATE VOICE from a fresh state: slot 0, generation 1, PENDING, and a CREATE entry (R62, R63). -/
theorem test_create_voice :
    let t := after (exec (.createVoice (cmd [0] bytesA)) (lane0 onLane)) .reset
    t.port.result = { completion := .done, bytes := [0, 1] } ∧ t.voices[0].state = .pending ∧ t.voices[0].template = templateA ∧
    t.queue = [.create { slot := 0, generation := 1 }] ∧ t.ageList = [0] := by decide +kernel

/-- A full pool of PENDING voices gives no slot: POOL_FULL (R82). -/
theorem test_pool_full :
    obtainSlot { playing with voices := Vector.replicate 16 (voiceIn .pending), ageList := List.finRange 16 } = none := by
  decide +kernel

/-- A voice that acts in LOCKED takes its template level at the attack step and hands it on (R52, R157). -/
theorem test_voice_acts :
    let t := after (exec (.laneResult 0 { voiced := true, period := 1745, confidence := 200 })
      { withVoice .active with voices := State.reset.voices.set 0 { voiceIn .active with fresh := true } }) .reset
    t.voices[0].level = 512 ∧ t.channels[0].nextGain = 512 ∧ t.channels[0].nextPan = 64 := by decide +kernel

/-- A hand-over leaves the frame in progress on its lane: the lane comes with the next ramp, which a CUTTING channel does not begin
(R157, R158, R159). -/
theorem test_lane_waits :
    let c := { handOver (voiceIn .active) { Channel.reset with state := .playing, lane := 2, endGain := 9 } with nextRatio := 7 }
    c.lane = 2 ∧ (startRamp c).lane = 0 ∧ (startRamp c).endRatio = 7 ∧ (startRamp { c with state := .cutting }).lane = 2 := by decide

/-- FRAME_BOUNDARY activates a PENDING voice on a LOCKED lane, counts the frame and empties the queue (R50, R96, R167). -/
theorem test_boundary_activates :
    let s := { withVoice .pending with
      queue := [.create { slot := 0, generation := 3 }], clock := { playing.clock with period := 255 } }
    let t := after (exec .frameBoundary s) s
    t.voices[0].state = .active ∧ t.voices[0].fresh = true ∧ t.queue = [] ∧ t.clock.frame = 1 ∧ t.clock.period = 0 := by
  decide +kernel

/-- A take of an EMPTY scene raises TAKE_FAILED and nothing else; of a LOADED one it places the template (R115, R117). -/
theorem test_takes :
    (playing.applyEntry (.take 7)).notices[10].subject = 7 ∧ (playing.applyEntry (.take 7)).currentScene = none ∧
    (let t := { playing with scenes := playing.scenes.set 7 (some sceneA) }.applyEntry (.take 7)
     t.currentScene = some 7 ∧ t.voices[0].state = .acquiring ∧ t.voices[0].owner = .scene ∧ t.lanes[0].tracking = .search) := by
  decide +kernel

/-- The armed cue's last frame: CUE_EXPIRED stages its take (R131). -/
theorem test_cue_expires :
    let s := { armed 1 with clock := { playing.clock with period := 255 } }
    let t := after (exec .cueExpired s) s
    t.queue = [.take 3] ∧ t.cue.armed = false ∧ t.notices[12].subject = 3 ∧ t.clock.countdownTaken = true := by decide +kernel

/-! ### Cue link, chord set, pedals -/

/-- `playing` with this line and partial message. -/
def heard (line : Line) (bytes : List Byte) : State :=
  { playing with link := { CueLink.reset with line := line, partialBytes := bytes } }

/-- The two check bytes of R140: KEY_DOWN 62 ends in 63, SCENE_CUE 12 in 17; 63 is 3Fh, least significant bit first (R137). -/
theorem test_check_bytes :
    (after (exec (.cueLinkMessage [false, true, true, true, true, true, true, false, false, true]) (heard .idle [129, 62, 0]))
      .reset).link.fifo = [.keyDown 62] ∧
    (after (exec (.cueLinkMessage (false :: lineBits 17 ++ [true])) (heard .idle [133, 12, 0])) .reset).link.fifo =
      [.sceneCue 12] := by decide +kernel

/-- The line (R137, R138): a high start bit is noise; a low stop bit is a framing fault, after which no start bit is looked for;
a byte in progress is completed by the samples that follow. -/
theorem test_line :
    (after (exec (.stray [true]) (heard .idle [])) .reset) = heard .idle [] ∧
    (∀ row ∈ [Instr.framing, .stray (false :: lineBits 0x81 ++ [false])], (after (exec row (heard .idle [129])) .reset).link =
      { CueLink.reset with faults := { FaultCounts.zero with framing := 1 } }) ∧
    (after (exec (.partialMessage [false, true, false]) (heard .idle [])) .reset).link.line = .receiving [true, false] ∧
    (after (exec (.partialMessage [false, false, false, false, false, true, true])
      (heard (.receiving [true, false]) [])) .reset).link.partialBytes = [0x81] := by decide +kernel

/-- Worked sequence of section 8.4: the latched chord is emptied by the next key; the ninth key removes the oldest. -/
theorem test_latch_restart :
    let fifo := fun (m : CueMessage) (es : List ChordEntry) =>
      { playing with link := { CueLink.reset with fifo := [m] }, chord := { entries := es, latch := true } }
    (after (exec .keyDown (fifo (.keyDown 55) [⟨50, false⟩, ⟨54, false⟩, ⟨57, false⟩])) .reset).chord.entries = [⟨55, true⟩] ∧
    (after (exec .keyDown (fifo (.keyDown 72) [⟨55, true⟩, ⟨59, false⟩, ⟨62, true⟩, ⟨64, true⟩, ⟨66, true⟩, ⟨67, true⟩, ⟨69, true⟩,
      ⟨71, true⟩])) .reset).chord.entries.map ChordEntry.note = [59, 62, 64, 66, 67, 69, 71, 72] := by decide +kernel

/-- Worked sequence of section 11.3: samples s1 to s5 press pedal 2 once; PEDAL with subject 5, freeze of lane 1 staged. -/
theorem test_bouncing_press :
    let s := { playing with lanes := playing.lanes.set 1 onLane,
                            pedals := playing.pedals.set 2 { binding := .freezeToggle 1, closed := false, differing := false } }
    let t := after (exec (.pedal 2 [false, true, false, true, true]) s) s
    t.pedals[2].closed = true ∧ t.notices[14].count = 1 ∧ t.notices[14].subject = 5 ∧
    t.queue = [.laneSettings 1 { on := true, bypass := false, freeze := true, dry := 4096 }] := by decide +kernel

/-! ### Rendering, clock, resets -/

/-- The worked mix of section 9.3. -/
theorem test_worked_mix :
    mixSide 0 4096 1000000 [(800000, 3072, 95), (-600000, 2048, 31)] = 1375590 ∧
    mixSide 0 4096 1000000 [(800000, 3072, 32), (-600000, 2048, 96)] = 924409 ∧
    mixSide 0 4096 7000000 [(6000000, 4096, 127)] = 8388607 ∧ mixSide 0 4096 7000000 [(6000000, 4096, 0)] = 7000000 := by
  decide +kernel

/-- The worked cut of chapter 9: a fade from 2048 stands at 800 at sample 156 and at 0 at sample 256. -/
theorem test_worked_cut : rampAt 2048 0 156 = 800 ∧ rampAt 2048 0 256 = 0 ∧ rampAt 0 1024 100 = 400 := by decide

/-- Entry to PRESENT: ACTIVE voices fall back to ACQUIRING, RELEASING ones are freed, CLOCK_BACK is raised (R61, R170). -/
theorem test_clock_back :
    let settling := fun st => { withVoice st with clock := { playing.clock with state := .settling, settle := 511 } }
    (after (exec .clockBack (settling .active)) .reset).voices[0].state = .acquiring ∧
    (after (exec .clockBack (settling .releasing)) .reset).voices[0].state = .free ∧
    (after (exec .clockBack (settling .active)) .reset).notices[2].pending = true ∧
    (after (exec .clockBack (settling .active)) .reset).clock.state = .present := by decide +kernel

/-- RESET_N held low and its rise; RESET_N still low when the supply comes up (R172). -/
theorem test_reset_pin :
    let open4 := Vector.replicate 4 false
    let low := after (exec (.resetPin .falls) (withVoice .active)) playing
    low.inReset = true ∧ low.attention = false ∧ (after (exec (.poll 1 none) low) playing).port.sdo = [] ∧
    (after (exec (.resetPin (.rises open4)) low) playing).clock.cause = .resetPin ∧
    (after (exec (.powerOn open4) { low with hold := .supply true }) playing).hold = .pinAfterSupply ∧
    after (exec (.resetPin (.rises open4)) { low with hold := .pinAfterSupply }) playing = State.reset := by decide +kernel

/-- RESTART in two steps: after its act a FETCH returns NONE and a SEND is discarded with OVERRUN; then its result is written
(R173). -/
theorem test_restart_window :
    let run := fun (i : Instr) (s : State) => after (exec i s) s
    let act := run (.restart ⟨cmd [] [], true⟩) (withVoice .active)
    (run (.fetch 2 none) act).port.sdo = [0, 0, 0] ∧ (run (.poll 1 none) act).port.sdo = [0, 0x40] ∧
    (run (.send (Command.mk 0x01 (cmd [] [])).bytes false none) act).port.overrun = true ∧ act.clock.cause = .restartCommand ∧
    run (.restart ⟨cmd [] [], false⟩) act = run (.restart ⟨cmd [] [], false⟩) (withVoice .active) := by decide +kernel

/-- Power-on leaves the state after reset; a soft reset keeps the lane's mode (R26, R172, R173). -/
theorem test_resets :
    (after (exec (.powerOn (Vector.replicate 4 false)) (withVoice .active)) playing) = State.reset ∧
    (after (exec (.restart ⟨cmd [] [], false⟩) (withVoice .active)) playing).lanes[0].tracking = .search ∧
    (after (exec (.restart ⟨cmd [] [], false⟩) (withVoice .active)) playing).port.result = { completion := .done, bytes := [3] } := by
  decide +kernel

/-! ### Witnesses: states and operands that meet the hypotheses of the statements

One theorem for each statement that has hypotheses; each conjunct meets the hypotheses of one clause, at a boundary of its range
where it has one. -/

/-- The hypotheses every port command's statement begins with. -/
abbrev Sent (s : State) (code : Byte) (f : CommandFrame) (length : Byte) : Prop := Takes s ⟨code, f⟩ ∧ f.declared = length

/-- `playing` while the port executes READ STATUS. -/
def busy : State := { playing with port := { playing.port with executing := some ⟨0x01, cmd [] []⟩ } }

/-- `playing` with the clock SETTLING. -/
def settling (n : Nat) : State := { playing with clock := { playing.clock with state := .settling, settle := n } }

/-- `playing` with `n` entries in the change queue. -/
def queued (n : Nat) : State := { playing with queue := List.replicate n (.take 0) }

/-- The frame data of a scene with byte `i` replaced. -/
def sceneWith (i : Nat) (b : Byte) : CommandFrame := cmd [31] ((sceneBytes sceneA).set i b)

theorem witness_StepRunsFrontCommand :
    { State.reset with pending := [.poll 0 none] }.pending = .poll 0 none :: [] := rfl

theorem witness_IdleStepIsOneWordClockEdge :
    (State.reset.pending = [] ∧ ClockLaw .reset ∧ State.reset.clock.state = .lost) ∧
    (let s := { playing with clock := { playing.clock with period := 255 } }; s.pending = [] ∧ ClockLaw s) ∧
    (settling 511).pending = [] ∧ ClockLaw (settling 511) ∧
    (let s := { playing with clock := { playing.clock with period := 254 } }
     s.pending = [] ∧ ClockLaw s ∧ s.inReset = false ∧ s.clock.state = .present ∧ s.clock.period < 255) ∧
    ((settling 510).pending = [] ∧ ClockLaw (settling 510) ∧ (settling 510).clock.state = .settling) := by
  refine ⟨?_, ?_, ?_, ?_, ?_, ?_⟩ <;> decide +kernel

theorem witness_PollReturnsStatusAndClearsFaults :
    playing.inReset = false ∧ { playing with hold := .pin }.inReset = true ∧ 8 ≤ (8 : Nat) ∧ (7 : Nat) < 8 := by decide

theorem witness_SendIsJudged :
    (busy.inReset = false ∧ busy.port.executing.isSome = true) ∧
    (playing.inReset = false ∧ playing.port.executing = none ∧ (cmd [1] bytesA).data.length = (cmd [1] bytesA).declared.toNat) ∧
    (∀ d, ([0x20] : List Byte)[1]? = some d → ([0x20] : List Byte).length ≠ 8 + d.toNat) ∧
    { playing with hold := .pin }.inReset = true :=
  ⟨by decide +kernel, by decide +kernel, by intro d h; simp at h, by decide⟩

theorem witness_FetchReturnsResultAndMalformedSetsFraming :
    playing.inReset = false ∧ 8 ≤ (8 : Nat) ∧ (7 : Nat) < 8 ∧ (0x10 : Byte) ≠ 0x11 ∧ (0x10 : Byte) ≠ 0x22 ∧ (0x10 : Byte) ≠ 0x33 := by decide

theorem witness_CommandBlocksRoundTrip :
    (Instr.createVoice (cmd [1] bytesA)).wellFormed = true ∧
    (Instr.createVoice (cmd [1] bytesA)).toCommand? = some ⟨0x20, cmd [1] bytesA⟩ ∧
    (Instr.unknownCommand 0x28 (cmd [] [])).wellFormed = true ∧
    (Instr.unknownCommand 0x28 (cmd [] [])).toCommand? = some ⟨0x28, cmd [] []⟩ ∧
    (Instr.restart ⟨cmd [] [], true⟩).toCommand? = some ⟨0x05, cmd [] []⟩ := by decide +kernel

theorem witness_PortCommandRowIsSendThenTaking :
    (Instr.readRefusal (cmd [] [])).wellFormed = true ∧
    (Instr.readRefusal (cmd [] [])).toCommand? = some ⟨0x02, cmd [] []⟩ ∧ playing.inReset = false ∧
    playing.port.executing = none ∧ busy.inReset = false ∧ busy.port.executing = some ⟨0x01, cmd [] []⟩ ∧
    (⟨0x01, cmd [] []⟩ : Command) ≠ ⟨0x02, cmd [] []⟩ := by decide +kernel

theorem witness_UnknownCommandAndBadLengthRefused :
    (requiredLength 0x28 = none ∧ Takes playing ⟨0x28, cmd [] []⟩) ∧
    ((Instr.readStatus (cmd [] [7])).wellFormed = true ∧ (Instr.readStatus (cmd [] [7])).toCommand? = some ⟨0x01, cmd [] [7]⟩ ∧
      Takes playing ⟨0x01, cmd [] [7]⟩ ∧ requiredLength 0x01 = some 0 ∧ (cmd [] [7]).declared.toNat ≠ 0) := by decide +kernel

theorem witness_StatusAndRefusalReads :
    Sent playing 0x01 (cmd [] []) 0 ∧ Sent busy 0x01 (cmd [] []) 0 ∧ Sent playing 0x02 (cmd [] []) 0 := by decide +kernel

theorem witness_NoticesFetchedSetAndSignalled :
    let waits := fun (s : State) (k : Fin 17) => s.notices[k].pending = true ∧ s.notices[k].enabled = true
    let quiet := { playing with notices := Notice.resetAll }
    Sent playing 0x03 (cmd [] []) 0 ∧ waits playing 0 ∧
    (∀ j : Fin 17, waits playing j → (playing.notices[j].urgent = true → playing.notices[(0 : Fin 17)].urgent = true) ∧
      (playing.notices[j].urgent = playing.notices[(0 : Fin 17)].urgent → 0 ≤ j)) ∧
    Sent quiet 0x03 (cmd [] []) 0 ∧ (∀ k : Fin 17, ¬waits quiet k) ∧
    Sent playing 0x04 (cmd [0, 0xFF, 0xFF, 0, 0, 1] []) 0 := by decide +kernel

theorem witness_RestartIsSoftReset :
    let s := { playing with channels := playing.channels.set 5 { Channel.reset with state := .playing, endGain := 9, position := 3 } }
    let between := { busy with port := { busy.port with executing := some ⟨0x05, cmd [] []⟩, resetActMade := true } }
    (Sent s 0x05 (cmd [] []) 0 ∧ s.port.resetActMade = false ∧ s.channels[5].state ≠ .silent ∧ s.channels[4].state = .silent) ∧
    (Sent between 0x05 (cmd [] []) 0 ∧ between.port.resetActMade = true) := by decide +kernel

theorem witness_SetLaneCharacteristicsReplacesAllNine :
    Sent playing 0x10 (cmd [4] (List.replicate 12 0)) 12 ∧ 4 ≤ (cmd [4] (List.replicate 12 0)).operands[0].toNat ∧
    Sent playing 0x10 (cmd [3] (List.replicate 12 0)) 12 ∧
    (cmd [3] (List.replicate 12 0)).operands[0].toNat = (3 : LaneId).val := by decide +kernel

theorem witness_LaneReads :
    Sent playing 0x11 (cmd [4] []) 0 ∧ Sent playing 0x11 (cmd [3] []) 0 ∧ Sent playing 0x12 (cmd [4] []) 0 ∧
    Sent playing 0x12 (cmd [3] []) 0 ∧ (cmd [3] []).operands[0].toNat = (3 : LaneId).val ∧
    4 ≤ (cmd [4] []).operands[0].toNat := by decide +kernel

theorem witness_LaneSettingsStages :
    Sent playing 0x13 (cmd [4] []) 0 ∧ Sent playing 0x13 (cmd [3, 1, 1, 1, 0xFF, 0xFF] []) 0 ∧
    (Room (queued 15) ∧ Sent (queued 15) 0x13 (cmd [3, 1] []) 0) ∧ (¬Room (queued 16) ∧ Sent (queued 16) 0x13 (cmd [3, 1] []) 0) ∧
    ¬Room { queued 15 with cue := (armed 1).cue } := by decide +kernel

theorem witness_TemplateExaminedInFieldOrder :
    let b := fun i => bytesA.getD i 0
    templateOf b (some 0) = .ok templateA ∧ templateOf b none = .error 1 ∧
    templateOf (fun i => if i = 3 then 15 else b i) (some 0) = .error 3 ∧
    templateOf (fun i => if i = 8 then 66 else b i) (some 0) = .error 8 := by decide +kernel

theorem witness_CreateVoiceChecksThenAllocates :
    let f := cmd [0] bytesA
    let s := lane0 onLane
    let full := { s with voices := Vector.replicate 16 { voiceIn .pending with template := { templateA with tag := 9 } } }
    Sent playing 0x20 (cmd [4] bytesA) 16 ∧ (Sent playing 0x20 f 16 ∧ playing.lanes[0].settings.on = false) ∧
    (Sent s 0x20 (cmd [0] (List.replicate 16 0)) 16 ∧ s.lanes[0].settings.on = true ∧
      templateOf (dat (cmd [0] (List.replicate 16 0))) (some 0) = .error 0) ∧
    (Sent s 0x20 f 16 ∧ templateOf (dat f) (some 0) = .ok templateA) ∧
    (Sent (withVoice .active) 0x20 f 16 ∧ (withVoice .active).voices[0].state ≠ .free ∧
      (withVoice .active).voices[0].template.lane = 0 ∧ (withVoice .active).voices[0].template.tag = templateA.tag) ∧
    (Sent { s with queue := List.replicate 16 (.take 0) } 0x20 f 16 ∧ ¬Room { s with queue := List.replicate 16 (.take 0) }) ∧
    (Sent full 0x20 f 16 ∧ Room full ∧ obtainSlot (atTaking full ⟨0x20, f⟩) = none ∧
      ∀ i : Slot, full.voices[i].template.tag ≠ templateA.tag) ∧
    (Room s ∧ obtainSlot (atTaking s ⟨0x20, f⟩) = some (0, atTaking s ⟨0x20, f⟩)) := by decide +kernel

theorem witness_ArbiterChoosesFreeSlotOrVictim :
    let full := fun st => { playing with voices := Vector.replicate 16 (voiceIn st), ageList := List.finRange 16 }
    let victim := { full .releasing with releaseList := [15, 0] }
    (playing.voices[(0 : Slot)].state = .free ∧ ∀ j : Slot, j < 0 → playing.voices[j].state ≠ .free) ∧
    ((∀ i : Slot, victim.voices[i].state ≠ .free) ∧ victim.releaseList = [] ++ 15 :: [0] ∧
      victim.voices[(15 : Slot)].template.group = .background) ∧
    ((∀ i : Slot, (full .active).voices[i].state ≠ .free) ∧ (full .active).releaseList = [] ∧
      (full .active).ageList = [] ++ 0 :: (List.finRange 16).drop 1 ∧ (full .active).voices[(0 : Slot)].state ≠ .pending) ∧
    ((∀ i : Slot, (full .pending).voices[i].state ≠ .free) ∧ (∀ i : Slot, (full .pending).voices[i].state = .pending)) := by
  decide +kernel

theorem witness_ModifyVoiceStagesStoredValue :
    Sent playing 0x21 (cmd [16] []) 0 ∧ (Sent playing 0x21 (cmd [15, 0] []) 0 ∧ playing.voices[15].state = .free) ∧
    (let s := withVoice .active
     Sent s 0x21 (cmd [0, 3, 2, 2, 0] []) 0 ∧ s.voices[0].state ≠ .free ∧ s.voices[0].generation.val = 3 ∧
     (∀ field ∈ [2, 4, 5, 6, 7, 9, 10, 11, 12, 13, 14, 15], Sent s 0x21 (cmd [0, 3, BitVec.ofNat 8 field, 1, 1] []) 0)) := by
  decide +kernel

theorem witness_RetireCommandsStage :
    Sent playing 0x22 (cmd [16] []) 0 ∧ Sent (withVoice .active) 0x22 (cmd [0, 3, 1] []) 0 ∧
    Sent playing 0x23 (cmd [4] []) 0 ∧ Sent playing 0x23 (cmd [3, 1, 2] []) 0 ∧
    16 ≤ (cmd [16] []).operands[0].toNat ∧ (cmd [3, 1, 2] []).operands[0].toNat = (3 : LaneId).val := by decide +kernel

theorem witness_VoiceReadsAndLookups :
    Sent playing 0x24 (cmd [16] []) 0 ∧ Sent (withVoice .active) 0x24 (cmd [0, 3] []) 0 ∧
    (Sent playing 0x25 (cmd [3, 1] []) 0 ∧ ∀ i : Slot, playing.voices[i].state = .free) ∧
    (Sent (withVoice .active) 0x25 (cmd [0, 1] []) 0 ∧ (withVoice .active).voices[0].template.tag = 1 ∧
      (withVoice .active).voices[0].state ≠ .free) ∧
    Sent playing 0x26 (cmd [] []) 0 ∧ Sent playing 0x27 (cmd [16] []) 0 ∧ Sent (withVoice .holding) 0x27 (cmd [0, 3] []) 0 := by
  decide +kernel

theorem witness_KeyMapCommands :
    Sent playing 0x30 (cmd [12] []) 0 ∧ 12 ≤ (cmd [12] []).operands[0].toNat ∧ Sent playing 0x30 (cmd [11, 0x10, 0] []) 0 ∧
    (cmd [11, 0x10, 0] []).operands[0].toNat = (11 : Fin 12).val ∧ Sent playing 0x31 (cmd [] []) 0 := by decide +kernel

theorem witness_LoadSceneExaminesThenStores :
    Sent playing 0x32 (cmd [32] (sceneBytes sceneA)) 148 ∧ Sent playing 0x32 (sceneWith 0 12) 148 ∧ 11 < (dat (sceneWith 0 12) 0).toNat ∧
    (Sent playing 0x32 (sceneWith 1 0x10) 148 ∧ 4096 ≤ (dat (sceneWith 1 0x10) 1 ++ dat (sceneWith 1 0x10) 2 : BitVec 16).toNat) ∧
    (Sent playing 0x32 (sceneWith 4 2) 148 ∧ 1 < (dat (sceneWith 4 2) 4).toNat) ∧
    (Sent playing 0x32 (sceneWith 5 9) 148 ∧ 8 < (dat (sceneWith 5 9) 5).toNat) ∧
    (Sent playing 0x32 (sceneWith 9 2) 148 ∧ 1 < (dat (sceneWith 9 2) 9).toNat % 16) ∧
    (Sent playing 0x32 (sceneWith 6 0x21) 148 ∧ 1 < (dat (sceneWith 6 0x21) 6).toNat / 16) ∧
    (let f := cmd [31] (sceneBytes sceneA)
     Sent playing 0x32 f 148 ∧ (dat f 5).toNat = [templateA].length ∧
     templateOf (fun i => dat f (18 + i)) (some 0) = .ok templateA ∧ sceneA.lanes[0].on = true) ∧
    (Sent playing 0x32 (sceneWith 18 0) 148 ∧ templateOf (fun i => dat (sceneWith 18 0) (18 + i)) (some 0) = .error 0) ∧
    (Sent playing 0x32 (sceneWith 19 1) 148 ∧ sceneA.lanes[(1 : LaneId)].on = false) ∧
    (let twice := cmd [31] ((((sceneBytes sceneA).set 5 2).take 34) ++ bytesA ++ List.replicate 98 0)
     Sent playing 0x32 twice 148 ∧ templateOf (fun i => dat twice (34 + i)) (some 0) = .ok templateA) := by
  refine ⟨?_, ?_, ?_, ?_, ?_, ?_, ?_, ?_, ?_, ?_, ?_, ?_⟩ <;> decide +kernel

theorem witness_SceneReadClearTake :
    Sent playing 0x33 (cmd [32] []) 0 ∧ (Sent playing 0x33 (cmd [31] []) 0 ∧ playing.scenes[31] = none) ∧
    (let s := { playing with scenes := playing.scenes.set 31 (some sceneA) }
     Sent s 0x33 (cmd [31] []) 0 ∧ s.scenes[31] = some sceneA ∧ Sent s 0x34 (cmd [31] []) 0 ∧ Sent s 0x35 (cmd [31] []) 0) ∧
    Sent playing 0x34 (cmd [32] []) 0 ∧ Sent playing 0x35 (cmd [32] []) 0 := by decide +kernel

theorem witness_SceneRecordRoundTrip :
    SceneLegal sceneA ∧ (cmd [7] (sceneBytes sceneA)).data = sceneBytes sceneA := by decide +kernel

theorem witness_SetlistCommands :
    let data := fun e : Byte => List.replicate 63 0 ++ [e]
    let walk := fun (wrap : Bool) (pos : Nat) => { playing with setlist := { entries := [3, 4], position := pos, wrap := wrap } }
    Sent playing 0x36 (cmd [65] (data 0)) 64 ∧ Sent playing 0x36 (cmd [64, 2] (data 0)) 64 ∧
    (Sent playing 0x36 (cmd [64, 1] (data 32)) 64 ∧ 31 < (dat (cmd [64, 1] (data 32)) 63).toNat) ∧
    (Sent playing 0x36 (cmd [2, 1] (data 0)) 64 ∧ ([0, 0] : List SceneId).length = 2 ∧
      ([0, 0] : List SceneId).map (fun e : SceneId => e.val) = ((data 0).take 2).map BitVec.toNat) ∧
    Sent playing 0x37 (cmd [] []) 0 ∧
    (Sent playing 0x38 (cmd [0] []) 0 ∧ Sent playing 0x38 (cmd [4] []) 0 ∧ Sent playing 0x38 (cmd [3] []) 0 ∧
      SetlistLegal playing.setlist ∧ playing.setlist.entries.length = 0) ∧
    (∀ wrap, ∀ pos < 2, Sent (walk wrap pos) 0x38 (cmd [1] []) 0 ∧ Sent (walk wrap pos) 0x38 (cmd [2] []) 0 ∧
      SetlistLegal (walk wrap pos).setlist) ∧
    Sent (walk true 0) 0x38 (cmd [3, 1] []) 0 ∧ Sent (walk true 0) 0x38 (cmd [3, 2] []) 0 := by
  refine ⟨?_, ?_, ?_, ?_, ?_, ?_, ?_, ?_, ?_⟩ <;> decide +kernel

theorem witness_ArmedCueCommands :
    Sent playing 0x40 (cmd [] [32, 0, 0, 0, 0, 0, 0, 0]) 8 ∧ Sent playing 0x40 (cmd [] [31, 4, 0, 0, 0, 0, 0, 0]) 8 ∧
    (let f := cmd [] [31, 3, 0, 1, 0xFF, 0xFF, 1, 0]
     Sent playing 0x40 f 8 ∧ (dat f 0).toNat = (31 : SceneId).val ∧ (dat f 1).toNat = (3 : LaneId).val) ∧
    (Sent (armed 3) 0x41 (cmd [] []) 0 ∧ (armed 3).cue.armed = true) ∧ (Sent playing 0x41 (cmd [] []) 0 ∧ playing.cue.armed = false) ∧
    Sent (armed 3) 0x42 (cmd [] []) 0 ∧ Sent playing 0x42 (cmd [] []) 0 := by decide +kernel

theorem witness_CueLinkCommands :
    Sent playing 0x50 (cmd [] []) 0 ∧ Sent playing 0x51 (cmd [] []) 0 ∧ Sent playing 0x52 (cmd [1, 1] []) 0 ∧
    Sent playing 0x52 (cmd [2, 0] []) 0 ∧ Sent playing 0x52 (cmd [1, 2] []) 0 := by decide +kernel

theorem witness_PedalCommands :
    Sent playing 0x60 (cmd [] [6, 9, 3, 3, 4, 0, 7, 0]) 8 ∧ 6 < (dat (cmd [] [6, 9, 3, 3, 4, 0, 7, 0]) 6).toNat ∧
    (Sent playing 0x60 (cmd [] [3, 4, 0, 0, 0, 0, 0, 0]) 8 ∧ 3 < (dat (cmd [] [3, 4, 0, 0, 0, 0, 0, 0]) 1).toNat) ∧
    (Sent playing 0x60 (cmd [] [6, 9, 3, 3, 4, 0, 0, 0]) 8 ∧ (dat (cmd [] [6, 9, 3, 3, 4, 0, 0, 0]) 2).toNat = 3) ∧
    Sent playing 0x61 (cmd [] []) 0 := by decide +kernel

theorem witness_LaneResultIsTaken :
    (playing.inReset = false ∧ playing.clock.state = .present ∧ playing.lanes[0].due = true ∧ playing.lanes[0].settings.on = false) ∧
    (let s := { armed 4 with lanes := (armed 4).lanes.set 0 { onLane with tracking := .reacquire, counter := 5 } }
     s.inReset = false ∧ s.clock.state = .present ∧ s.lanes[0].due = true ∧ s.lanes[0].settings.on = true ∧
     (takeResult { s.lanes[0] with due := false } { voiced := true, period := 1745, confidence := 200 } s.keyMap.ref).2.arrival =
       some 57 ∧ s.cue.armed = true ∧ s.cue.lane = 0 ∧ s.cue.matchSet.getLsbD ((57 : Int) % 12).toNat = true) ∧
    (takeResult { locked 5700 57 with due := false } { voiced := true, period := 1745, confidence := 200 } 0).2.arrival = none := by
  decide +kernel

theorem witness_HoldExpiryAndLaneLostAreResults :
    let r : LaneResult := { voiced := false, period := 1745, confidence := 0 }
    (let s := lane0 { locked 5700 57 with tracking := .hold, counter := 1 }
     s.inReset = false ∧ s.clock.state = .present ∧ s.lanes[0].due = true ∧ s.lanes[0].settings.on = true ∧
     classify s.lanes[0].chars r ≠ .voiced ∧ s.lanes[0].tracking = .hold ∧ s.lanes[0].counter ≤ 1) ∧
    (let s := lane0 { locked 2250 22 with tracking := .hold, counter := 9 }
     s.lanes[0].due = true ∧ s.lanes[0].tracking = .hold ∧ s.lanes[0].p < s.lanes[0].chars.lowLimit) ∧
    (let s := lane0 { locked 5700 57 with tracking := .reacquire, counter := 1 }
     s.lanes[0].due = true ∧ s.lanes[0].settings.on = true ∧ s.lanes[0].tracking = .reacquire ∧ s.lanes[0].counter ≤ 1) := by
  decide +kernel

theorem witness_LaneTransitions :
    let quiet : LaneResult := { voiced := false, period := 0, confidence := 0 }
    let sung : LaneResult := { voiced := true, period := 1745, confidence := 96 }
    classify onLane.chars quiet = .notVoiced ∧ classify onLane.chars { sung with confidence := 95 } = .lowConfidence ∧
    classify onLane.chars { sung with period := 511 } = .periodRange ∧ classify onLane.chars { sung with period := 12801 } = .periodRange ∧
    classify { onLane.chars with highLimit := 5699 } sung = .outOfLimits ∧ classify onLane.chars sung = .voiced ∧
    onLane.settings.on = true ∧ onLane.tracking = .search ∧ (locked 5700 57).tracking = .locked ∧
    ((takeResult (locked 5700 57) sung 0).1.tracking = .locked ∧ (takeResult (locked 5700 57) quiet 0).1.tracking = .hold) := by
  decide +kernel

theorem witness_LockedLaneFollowsVoicedResult :
    let l := locked 5712 57
    let r : LaneResult := { voiced := true, period := 3471, confidence := 200 }
    l.settings.on = true ∧ l.tracking = .locked ∧ classify l.chars r = .voiced ∧ l.chars.octaveWindow ≠ 0 ∧
    l.chars.octaveWindow ≤ 100 ∧ |rawPitch 3471 - l.p - 1200 * (-1)| ≤ l.chars.octaveWindow ∧ 1 < l.chars.octavePersist ∧
    l.chars.lowLimit ≤ rawPitch 3471 + 1200 ∧ rawPitch 3471 + 1200 ≤ l.chars.highLimit ∧
    |rawPitch 1742 - 4510 - 1200| ≤ (l.chars.octaveWindow : Int) ∧ classify l.chars { r with period := 1742 } = .voiced ∧
    ¬|rawPitch 1745 - l.p - 1200 * 1| ≤ (l.chars.octaveWindow : Int) := by decide +kernel

theorem witness_RawPitchIsExactlyRounded : 512 ≤ (512 : Nat) ∧ (12800 : Nat) ≤ 12800 := by decide

theorem witness_RatioIsExactlyRounded :
    -2400 ≤ (-2400 : Int) ∧ (2400 : Int) ≤ 2400 ∧
    (compute { voiceIn .active with fresh := true }
      { tracking := .locked, p := 5700, n := 57, d := 0, freeze := false, keyMap := dMajor, chordSet := 0 }).delta = 394 := by
  decide +kernel

theorem witness_ScaleAndChordStepsCountNotes :
    dMajor.members.getLsbD dMajor.tonic.val = true ∧ dMajor.members.getLsbD ((53 - 1 : Int) % 12).toNat = true ∧
    (∀ x : Fin 54, 53 - 1 < x.val → dMajor.members.getLsbD (x.val % 12) = false) ∧ (0x244 : PitchSet) ≠ 0 ∧
    1 ≤ |(-4 : Int)| ∧ |(4 : Int)| ≤ 4 := by decide +kernel

theorem witness_VoiceComputationSteps :
    TemplateLegal templateA ∧ TemplateLegal { templateA with rule := .chord, operand := -4 } ∧
    TemplateLegal { templateA with rule := .fixed, operand := 24 } ∧ TemplateLegal { templateA with rule := .pinned, operand := 119 } := by
  refine ⟨?_, ?_, ?_, ?_⟩ <;> decide +kernel

/-- Lane 0 in a tracking state with a voice of some level in slot 0. -/
def actor (l : Lane) (st : VoiceState) (level : Nat) : State :=
  { withVoice st with lanes := (lane0 l).lanes, voices := State.reset.voices.set 0 { voiceIn st with level := level } }

/-- Whether `actor l st level` meets the hypotheses of `VoicesActAtLaneResult`, with the lane's state and the voice's after a voiced
or unvoiced result. -/
def acts (l : Lane) (voiced : Bool) (st : VoiceState) (level : Nat) (tr : Tracking) (st' : VoiceState) : Bool :=
  let s := actor l st level
  let t := after (exec (.laneResult 0 ⟨voiced, 1745, 200⟩) s) .reset
  !s.inReset && s.clock.state = .present && s.lanes[0].due && s.lanes[0].settings.on && decide (TrackingLegal s.lanes[0]) &&
    t.lanes[0].tracking = tr && t.voices[0].state = st'

/-- A lane in HOLD or REACQUIRE on A4, its counter at `n`. -/
def waiting (tr : Tracking) (n : Nat) : Lane := { locked 5700 57 with tracking := tr, counter := n }

theorem witness_VoicesActAtLaneResult :
    (acts (locked 5700 57) true .active 0 .locked .active && acts (locked 5700 57) true .acquiring 0 .locked .active &&
      acts (locked 5700 57) true .holding 0 .locked .active && acts (locked 5700 57) true .releasing 128 .locked .free &&
      acts (locked 5700 57) true .releasing 129 .locked .releasing) = true ∧
    (acts (locked 5700 57) false .active 9 .hold .holding && acts (waiting .hold 2) false .acquiring 0 .hold .acquiring &&
      acts (waiting .hold 2) false .holding 9 .hold .holding && acts (waiting .hold 2) false .releasing 129 .hold .releasing) =
      true ∧
    (acts (waiting .hold 1) false .active 9 .reacquire .holding && acts (waiting .hold 1) false .holding 9 .reacquire .holding &&
      acts (waiting .hold 1) false .acquiring 0 .reacquire .acquiring &&
      acts (waiting .hold 1) false .releasing 9 .reacquire .free) = true ∧
    (acts (waiting .reacquire 1) false .active 9 .search .acquiring && acts (waiting .reacquire 1) false .holding 9 .search .acquiring &&
      acts (waiting .reacquire 1) false .acquiring 0 .search .acquiring &&
      acts (waiting .reacquire 1) false .releasing 4096 .search .free) = true := by
  refine ⟨?_, ?_, ?_, ?_⟩ <;> decide +kernel

theorem witness_FrameBoundaryActs :
    let s := { armed 1 with clock := { playing.clock with period := 255 } }
    playing.inReset = false ∧ playing.clock.state = .present ∧ playing.clock.period ≤ 255 ∧ s.clock.period ≤ 255 ∧
    s.clock.countdownTaken = false ∧ s.cue.armed = true ∧ 0 < s.cue.timeout ∧ s.cue.remaining ≤ 1 := by decide +kernel

theorem witness_EntriesApplied :
    (withVoice .active).voices[(1 : Slot)].state = .free ∧
    ((withVoice .active).voices[(0 : Slot)].state = .active ∧ (withVoice .active).voices[(0 : Slot)].generation = 3) ∧
    (withVoice .pending).voices[(0 : Slot)].state = .pending ∧ (withVoice .releasing).voices[(0 : Slot)].state = .releasing ∧
    PoolLaw (withVoice .active) ∧ PoolLaw (withVoice .pending) ∧ PoolLaw (withVoice .releasing) := by decide +kernel

theorem witness_LaneSettingsApplied :
    PoolLaw (withVoice .active) ∧ (withVoice .active).lanes[0].settings.on = true ∧
    (withVoice .active).voices[(0 : Slot)].template.lane = 0 ∧ (withVoice .active).voices[(0 : Slot)].state ≠ .free := by
  decide +kernel

/-- `withVoice` with a scene in bank place 7. -/
def taking (st : VoiceState) (sc : Scene) : State := { withVoice st with scenes := playing.scenes.set 7 (some sc) }

/-- An EMPTY scene; an outgoing ACTIVE voice that holds the template's tag, released and then killed for it; a voice that
KEEP_CONTROL leaves, whose tag makes the template skipped; an outgoing PENDING voice; a pool without a victim. -/
theorem witness_TakeApplied :
    let keep := { sceneA with takeMode := .keepControl }
    let full := { taking .active { keep with templates := [{ templateA with tag := 9 }] } with
      voices := Vector.replicate 16 { voiceIn .active with template := { templateA with group := .foreground } } }
    (playing.scenes[7] = none ∧ (taking .active sceneA).scenes[7] = some sceneA ∧ SceneLegal sceneA ∧ SceneLegal keep) ∧
    (PoolLaw (taking .active sceneA) ∧ TagLaw (taking .active sceneA) ∧
      ((taking .active sceneA).applyEntry (.take 7)).voices[(0 : Slot)].owner = .scene) ∧
    (PoolLaw (taking .active keep) ∧ TagLaw (taking .active keep) ∧
      ((taking .active keep).applyEntry (.take 7)).notices[(9 : Fin 17)].subject = 1) ∧
    (PoolLaw (taking .pending sceneA) ∧ TagLaw (taking .pending sceneA) ∧
      ((taking .pending sceneA).applyEntry (.take 7)).notices[(6 : Fin 17)].count = 1) ∧
    obtainSlot full = none := by
  refine ⟨⟨?_, ?_, ?_, ?_⟩, ⟨?_, ?_, ?_⟩, ⟨?_, ?_, ?_⟩, ⟨?_, ?_, ?_⟩, ?_⟩ <;> decide +kernel

theorem witness_CueExpiresBeforeApplication :
    (armed 1).inReset = false ∧ (armed 1).clock.state = .present ∧ (armed 1).clock.period ≤ 255 ∧
    (armed 1).clock.countdownTaken = false ∧ (armed 1).cue.armed = true ∧ 0 < (armed 1).cue.timeout ∧
    (armed 1).cue.remaining ≤ 1 := by decide +kernel

theorem witness_CutFadeEnds :
    let cut := fun (s : State) => { s with channels := s.channels.set 2 { Channel.reset with state := .cutting, position := 1 } }
    (cut playing).channels[2].state = .cutting ∧ (cut playing).channels[2].position < 256 ∧
    (cut playing).clock.period + (256 - 1) ≤ 255 ∧ (cut (settling 256)).clock.settle + (256 - 1) ≤ 511 := by decide +kernel

theorem witness_MixIsExactAndRoundedOnce : (256 : Nat) ≤ 256 ∧ (0 : Nat) ≤ 256 := by decide

theorem witness_OutputSlotsCarryLaneMixes :
    playing.pending = [] ∧ playing.inReset = false ∧ playing.clock.state = .present ∧ playing.clock.period < 255 ∧
    (∀ k : LaneId, playing.audio.delay[k].length = 256) ∧ (∀ i : Slot, ChannelLegal playing.channels[i]) ∧
    (after (step playing) playing).clock.period = 1 := by decide +kernel

theorem witness_ClockLossAndReturn :
    playing.clock.state = .present ∧ State.reset.clock.state = .lost ∧
    (settling 511).clock.state = .settling ∧ (settling 511).clock.settle ≤ 511 := by decide +kernel

theorem witness_HardResets :
    playing.hold = .running ∧
    ∀ h ∈ [Hold.pin, .supply false, .supply true, .pinAfterSupply], { playing with hold := h }.inReset = true := by decide

theorem witness_CueLinkBytes :
    playing.link.line = .waitHigh ∧ (heard .idle []).link.line = .idle ∧
    ((heard (.receiving [true]) []).link.line = .receiving [true] ∧ 1 + (lineBits 0x80).tail.length ≤ 8) ∧
    (∀ b ∈ [(0x80 : Byte), 0x7F], ∀ stop, Delivers (heard .idle [0x81, 60, 0]).link.line (false :: (lineBits b ++ [stop])) b stop) ∧
    (∀ stop, Delivers (heard (.receiving [false]) []).link.line ((lineBits 0x80).tail ++ [stop]) 0x80 stop) :=
  ⟨rfl, rfl, by decide, fun b _ stop => .inl ⟨rfl, 0, rfl⟩, fun stop => .inr ⟨[false], (lineBits 0x80).tail, rfl, rfl, rfl⟩⟩

theorem witness_CueLinkMessageExamined :
    let s := heard .idle [0x81, 119, 0]
    s.inReset = false ∧ Delivers s.link.line (false :: (lineBits 0x78 ++ [true])) 0x78 true ∧ (0x78 : Byte).msb = false ∧
    s.link.partialBytes = [0x81, 119, 0] ∧ (0x78 : Byte).toNat = (0x81 + 119 + 0) % 128 ∧
    (0x77 : Byte).toNat ≠ (0x81 + 119 + 0) % 128 := ⟨rfl, .inl ⟨rfl, 0, rfl⟩, by decide, rfl, by decide, by decide⟩

/-- `playing` with a good message at the FIFO's head. -/
def holding (m : CueMessage) : State := { playing with link := { CueLink.reset with fifo := [m] } }

theorem witness_ChordMessagesTaken :
    ∀ m ∈ [CueMessage.keyDown 119, .keyUp 0, .keysClear, .latch true, .latch false],
      (holding m).inReset = false ∧ (holding m).link.headWaits = false ∧ (holding m).link.fifo = m :: [] := by decide +kernel

theorem witness_ShowMessagesTaken :
    (∀ m ∈ [CueMessage.sceneCue 31, .setlistStep true, .setlistStep false, .cueFire],
      (holding m).inReset = false ∧ (holding m).link.headWaits = false ∧ (holding m).link.fifo = m :: [] ∧
      SetlistLegal (holding m).setlist) ∧
    SetlistLegal { entries := [3, 4], position := 0, wrap := false } ∧ SetlistLegal { entries := [3, 4], position := 1, wrap := true } := by
  decide +kernel

theorem witness_PedalDebouncedAndBindingRun :
    let with_ := fun p : Pedal => { playing with pedals := playing.pedals.set 3 p }
    (with_ { binding := .none, closed := true, differing := true }).pedals[3].differing = true ∧
    playing.inReset = false ∧ playing.pedals[3].differing = false ∧
    (∀ b ∈ [Binding.none, .setlistNext, .setlistPrev, .freezeToggle 3, .bypassToggle 0, .fireCue, .chordClear],
      let s := with_ { binding := b, closed := false, differing := true }
      s.inReset = false ∧ s.pedals[3].closed = false ∧ s.pedals[3].differing = true ∧ SetlistLegal s.setlist ∧
      s.pedals[3].binding = b) := by decide +kernel

/-- The premises of the invariants, in a state that is not reset, and that a step from it answers a next state. -/
theorem witness_StepKeepsLaws :
    let s := withVoice .active
    (QueueLaw s ∧ CueLaw s ∧ NoticeLaw s ∧ ClockLaw s) ∧ (PoolLaw s ∧ TagLaw s ∧ OffLaw s) ∧ VoiceLaw s ∧ TrackingLaw s ∧
    (LinkLaw s ∧ ChordLaw s) ∧ RenderLaw s ∧ goesOn (step s) = true ∧
    PortLaw { s with port := { s.port with executing := some ⟨0x05, cmd [] []⟩, resetActMade := true } } := by
  refine ⟨?_, ?_, ?_, ?_, ?_, ?_, ?_, ?_⟩ <;> decide +kernel

theorem witness_RecordLaw :
    let s := withVoice .active
    KeyMapLegal s.keyMap ∧ SetlistLegal s.setlist ∧ (∀ e ∈ s.queue, entryLegal e = true) ∧
    (∀ k : LaneId, CharsLegal s.lanes[k].chars ∧ s.lanes[k].settings.dry ≤ 4096) ∧
    (∀ i : Slot, s.voices[i].state ≠ .free → TemplateLegal s.voices[i].template) ∧
    ∀ n : SceneId, s.scenes[n] = none := by decide +kernel

end Sys2Proof.Tests
end

section
/-! PROOF. What a port command's row does at the port that takes it, read off its answer, in the statements' words
`doneState` and `refusedState`. Then the byte forms that the result layouts share. -/

namespace Sys2Proof.Machine

@[simp] theorem byte_toNat (b : Byte) : byte b.toNat = b := by simp [byte]

/-! ### The taking of a command -/

/-- The taking of a command changes nothing but the port. -/
theorem atTaking_frame (s : State) (c : Command) : ∃ p, atTaking s c = { s with port := p } := by
  unfold atTaking
  split
  · exact ⟨s.port, rfl⟩
  · exact ⟨_, rfl⟩

@[simp] theorem atTaking_lanes (s : State) (c : Command) : (atTaking s c).lanes = s.lanes := by
  obtain ⟨p, h⟩ := atTaking_frame s c
  rw [h]

/-- A command of the required length whose answer is DONE with `t` and its bytes (R186). -/
theorem State.runCommand_done {s t : State} {c : Command} {act : State → Answer} {bytes : List Byte} (h : Takes s c)
    (hl : requiredLength c.code = some c.frame.declared.toNat) (ha : act (atTaking s c) = .done t bytes) :
    s.runCommand c act = doneState t bytes := by
  rw [State.runCommand_takes h, State.takeCommand_of_length _ _ _ hl, ha]
  rfl

/-- A command of the required length whose answer is a refusal (R186, R188). -/
theorem State.runCommand_refused {s : State} {c : Command} {act : State → Answer} {code : RefusalCode} {detail : Nat}
    (h : Takes s c) (hl : requiredLength c.code = some c.frame.declared.toNat)
    (ha : act (atTaking s c) = .refused code detail) :
    s.runCommand c act = refusedState (atTaking s c) code.bytes.1 code.bytes.2 c.code (byte detail) := by
  rw [State.runCommand_takes h, State.takeCommand_of_length _ _ _ hl, ha]
  rfl

/-- A refusal whose detail is a byte of the frame, such as the number of a lane that is not there. -/
theorem State.runCommand_refused_byte {s : State} {c : Command} {act : State → Answer} {code : RefusalCode} {b : Byte}
    (h : Takes s c) (hl : requiredLength c.code = some c.frame.declared.toNat)
    (ha : act (atTaking s c) = .refused code b.toNat) :
    s.runCommand c act = refusedState (atTaking s c) code.bytes.1 code.bytes.2 c.code b := by
  rw [State.runCommand_refused h hl ha, byte_toNat]

/-! ### Lane numbers -/

theorem laneOf?_of_ge {b : Byte} (h : 4 ≤ b.toNat) : laneOf? b = none := dif_neg (by omega)

theorem laneOf?_of_eq {b : Byte} {k : LaneId} (h : b.toNat = k.val) : laneOf? b = some k := by
  have hlt : b.toNat < 4 := h ▸ k.isLt
  rw [laneOf?, dif_pos hlt]
  exact congrArg some (Fin.ext h)

/-! ### Two-byte fields (R191) -/

/-- The two bytes of a number, most significant first. -/
theorem bytes16_eq_be16 (n : Nat) : bytes16 n = be16 n := by
  have high : byte (n / 256) = (BitVec.ofInt 16 n).extractLsb' 8 8 := by
    apply BitVec.eq_of_toNat_eq
    simp [byte, Nat.shiftRight_eq_div_pow]
    omega
  have low : byte n = (BitVec.ofInt 16 n).extractLsb' 0 8 := by
    apply BitVec.eq_of_toNat_eq
    simp [byte]
  rw [bytes16, be16, high, low]

/-- The two bytes of a signed number, most significant first. -/
theorem signedBytes16_eq_be16 (z : Int) : signedBytes16 z = be16 z := by
  rw [signedBytes16, bytes16_eq_be16]
  simp only [be16, BitVec.ofInt_natCast, BitVec.ofNat_toNat, BitVec.setWidth_eq]

end Sys2Proof.Machine
end

section
/-! PROOF. The lane commands of the control port (R18, R21, R23). -/

namespace Sys2Proof.Machine

/-! ### The lane image (R23) -/

theorem pitchValid_eq_decide (t : Tracking) : pitchValid t = decide (t = .locked ∨ t = .hold ∨ t = .reacquire) := by
  cases t <;> rfl

/-- Bits 0, 1 and 2 of a byte, given as three flags. -/
theorem byte_flags (on bypass freeze : Bool) : byte (flag on 1 + flag bypass 2 + flag freeze 4) =
    (BitVec.ofBool freeze ++ BitVec.ofBool bypass ++ BitVec.ofBool on).setWidth 8 := by
  cases on <;> cases bypass <;> cases freeze <;> rfl

/-- The 32-byte lane image, with two-byte fields, flags and codes written out. -/
theorem laneImage_eq (l : Lane) : laneImage l =
    [(BitVec.ofBool l.settings.freeze ++ BitVec.ofBool l.settings.bypass ++ BitVec.ofBool l.settings.on).setWidth 8] ++
    be16 l.settings.dry ++ [trackingCode l.tracking, if pitchValid l.tracking then 1 else 0] ++
    be16 (if pitchValid l.tracking then l.p else 0) ++ [BitVec.ofInt 8 (if pitchValid l.tracking then l.n else 0)] ++
    be16 (if pitchValid l.tracking then l.d else 0) ++
    [l.lastConfidence, classCode l.lastClass, BitVec.ofNat 8 l.counter, l.candidate.elim 0xFF (BitVec.ofInt 8),
     BitVec.ofNat 8 l.confirmCount, BitVec.ofNat 8 l.octaveLength, directionCode l.octaveDirection] ++
    be16 l.resultCount ++ be16 l.correctionCount ++ be16 l.chars.lowLimit ++ be16 l.chars.highLimit ++
    [BitVec.ofNat 8 l.chars.threshold, BitVec.ofNat 8 l.chars.hysteresis, BitVec.ofNat 8 l.chars.confirmFrames,
     BitVec.ofNat 8 l.chars.octaveWindow, BitVec.ofNat 8 l.chars.octavePersist, BitVec.ofNat 8 l.chars.holdFrames,
     BitVec.ofNat 8 l.chars.reacquireFrames] := by
  simp only [laneImage, laneCharsBytes, byte_flags, bytes16_eq_be16, signedBytes16_eq_be16, List.append_assoc]
  rfl

/-! ### The answers, for a lane number above 3 and for a lane -/

section
variable {f : CommandFrame} (s : State)

theorem answerSetLaneCharacteristics_badTarget (h : 4 ≤ f.operands[0].toNat) :
    answerSetLaneCharacteristics f s = .refused .badTarget f.operands[0].toNat := by
  simp [answerSetLaneCharacteristics, operand, laneOf?_of_ge h]

theorem answerReadLane_badTarget (h : 4 ≤ f.operands[0].toNat) :
    answerReadLane f s = .refused .badTarget f.operands[0].toNat := by
  simp [answerReadLane, operand, laneOf?_of_ge h]

theorem answerReadLastCorrection_badTarget (h : 4 ≤ f.operands[0].toNat) :
    answerReadLastCorrection f s = .refused .badTarget f.operands[0].toNat := by
  simp [answerReadLastCorrection, operand, laneOf?_of_ge h]

variable {k : LaneId}

theorem answerSetLaneCharacteristics_badParam (h : f.operands[0].toNat = k.val) {detail : Nat}
    (hchars : laneCharsOf f = .error detail) : answerSetLaneCharacteristics f s = .refused .badParam detail := by
  simp [answerSetLaneCharacteristics, operand, laneOf?_of_eq h, hchars]

theorem answerSetLaneCharacteristics_done (h : f.operands[0].toNat = k.val) {chars : LaneChars}
    (hchars : laneCharsOf f = .ok chars) :
    answerSetLaneCharacteristics f s = .done (s.setLane k { s.lanes[k] with chars := chars }) [] := by
  simp [answerSetLaneCharacteristics, operand, laneOf?_of_eq h, hchars]

theorem answerReadLane_done (h : f.operands[0].toNat = k.val) : answerReadLane f s = .done s (laneImage s.lanes[k]) := by
  simp [answerReadLane, operand, laneOf?_of_eq h]

theorem answerReadLastCorrection_done (h : f.operands[0].toNat = k.val) (hvalid : s.lanes[k].correction.valid = true) :
    answerReadLastCorrection f s =
      .done (s.setLane k { s.lanes[k] with correction := { s.lanes[k].correction with valid := false } })
        (correctionBytes s.lanes[k]) := by
  simp_all [answerReadLastCorrection, operand, laneOf?_of_eq h]

theorem answerReadLastCorrection_noCorrection (h : f.operands[0].toNat = k.val)
    (hvalid : ¬s.lanes[k].correction.valid = true) :
    answerReadLastCorrection f s = .refused .noCorrection f.operands[0].toNat := by
  simp_all [answerReadLastCorrection, operand, laneOf?_of_eq h]

end

/-! ### The three rows -/

/-- Settles O12, by the row's answer for a lane number above 3 and for each outcome of the data phase's examination. -/
theorem setLaneCharacteristicsReplacesAllNine : Obligations.SetLaneCharacteristicsReplacesAllNine := by
  intro s f htakes hlength u low high
  have hl : requiredLength 0x10 = some f.declared.toNat := by rw [hlength]; rfl
  constructor
  · exact fun hlane => congrArg _ (State.runCommand_refused_byte htakes hl (answerSetLaneCharacteristics_badTarget _ hlane))
  · intro k hlane
    have refuse {detail : Nat} (h : laneCharsOf f = .error detail) :=
      State.runCommand_refused htakes hl (answerSetLaneCharacteristics_badParam u hlane h)
    have store {chars : LaneChars} (h : laneCharsOf f = .ok chars) :=
      State.runCommand_done htakes hl (answerSetLaneCharacteristics_done u hlane h)
    simp only [u, State.setLane, atTaking_lanes] at store
    refine congrArg Host.Outcome.next ?_
    split_ifs with hlimits hconfirm hpersist
    · exact refuse (if_pos hlimits)
    · exact refuse ((if_neg hlimits).trans (if_pos hconfirm))
    · exact refuse ((if_neg hlimits).trans ((if_neg hconfirm).trans (if_pos hpersist)))
    · exact store ((if_neg hlimits).trans ((if_neg hconfirm).trans (if_neg hpersist)))

/-- READ LANE's row (R23). -/
theorem readLane_returns_image (s : State) (f : CommandFrame) (htakes : Takes s ⟨0x11, f⟩) (hlength : f.declared = 0) :
    (4 ≤ f.operands[0].toNat →
      exec (.readLane f) s = .next (refusedState (atTaking s ⟨0x11, f⟩) 1 4 0x11 f.operands[0])) ∧
    (∀ k : LaneId, f.operands[0].toNat = k.val →
      exec (.readLane f) s = .next (doneState (atTaking s ⟨0x11, f⟩) (laneImage s.lanes[k]))) := by
  have hl : requiredLength 0x11 = some f.declared.toNat := by rw [hlength]; rfl
  constructor
  · exact fun hlane => congrArg _ (State.runCommand_refused_byte htakes hl (answerReadLane_badTarget _ hlane))
  · intro k hlane
    have run := State.runCommand_done htakes hl (answerReadLane_done _ hlane)
    rw [atTaking_lanes] at run
    exact congrArg _ run

/-- READ LAST CORRECTION's row (R18). -/
theorem readLastCorrection_returns_record (s : State) (f : CommandFrame) (htakes : Takes s ⟨0x12, f⟩)
    (hlength : f.declared = 0) :
    (4 ≤ f.operands[0].toNat →
      exec (.readLastCorrection f) s = .next (refusedState (atTaking s ⟨0x12, f⟩) 1 4 0x12 f.operands[0])) ∧
    (∀ k : LaneId, f.operands[0].toNat = k.val →
      exec (.readLastCorrection f) s = .next
        (if s.lanes[k].correction.valid = true then doneState
          ((atTaking s ⟨0x12, f⟩).setLane k
            { s.lanes[k] with correction := { s.lanes[k].correction with valid := false } })
          (correctionBytes s.lanes[k])
        else refusedState (atTaking s ⟨0x12, f⟩) 2 8 0x12 f.operands[0])) := by
  have hl : requiredLength 0x12 = some f.declared.toNat := by rw [hlength]; rfl
  have hlanes := atTaking_lanes s ⟨0x12, f⟩
  constructor
  · exact fun hlane => congrArg _ (State.runCommand_refused_byte htakes hl (answerReadLastCorrection_badTarget _ hlane))
  · intro k hlane
    refine congrArg Host.Outcome.next ?_
    split_ifs with hvalid
    · rw [← hlanes] at hvalid ⊢
      exact State.runCommand_done htakes hl (answerReadLastCorrection_done _ hlane hvalid)
    · rw [← hlanes] at hvalid
      exact State.runCommand_refused_byte htakes hl (answerReadLastCorrection_noCorrection _ hlane hvalid)

/-- Settles O13: the answers of the two reads, with their bytes written out. -/
theorem laneReads : Obligations.LaneReads := by
  refine ⟨fun s f htakes hlength => ?_, fun s f htakes hlength => ?_⟩
  · obtain ⟨badTarget, image⟩ := readLane_returns_image s f htakes hlength
    refine ⟨badTarget, fun k hlane => (image k hlane).trans ?_⟩
    rw [laneImage_eq, pitchValid_eq_decide]
    cases s.lanes[k].candidate <;> rfl
  · obtain ⟨badTarget, record⟩ := readLastCorrection_returns_record s f htakes hlength
    refine ⟨badTarget, fun k hlane => (record k hlane).trans ?_⟩
    simp only [correctionBytes, bytes16_eq_be16, signedBytes16_eq_be16, State.setLane, atTaking_lanes]
    rfl

end Sys2Proof.Machine
end

section
/-! PROOF. A voiced result taken in LOCKED or HOLD (R7, R9): the octave check and the note decision, each said once, and O32. -/

namespace Sys2Proof.Machine

/-! ### The octave check (R15 to R17) -/

/-- The result is a suspect octave jump of this sign (R15). -/
def IsSuspect (c : LaneChars) (p raw sign : Int) : Prop :=
  c.octaveWindow ≠ 0 ∧ |raw - p - 1200 * sign| ≤ c.octaveWindow

/-- The result is corrected by an octave of this sign and direction (R16). -/
def IsCorrected (l : Lane) (raw sign : Int) (dir : Direction) : Prop :=
  IsSuspect l.chars l.p raw sign ∧ suspectLength l dir < l.chars.octavePersist ∧
    l.chars.lowLimit ≤ raw - 1200 * sign ∧ raw - 1200 * sign ≤ l.chars.highLimit

/-- The lane with its octave run and last-correction record as a correction leaves them (R16, R17). -/
def recordCorrection (l : Lane) (raw sign : Int) (dir : Direction) : Lane :=
  { l with
    octaveLength := suspectLength l dir
    octaveDirection := dir
    correction := { raw := raw, corrected := raw - 1200 * sign, direction := dir, resultNumber := l.resultCount,
                    valid := true }
    correctionCount := min 65535 (l.correctionCount + 1) }

/-- The model names a sign only for a suspect result. -/
theorem isSuspect_of_suspectSign {c : LaneChars} {p raw sign : Int} (h : suspectSign c p raw = some sign) :
    (sign = 1 ∨ sign = -1) ∧ IsSuspect c p raw sign := by
  unfold suspectSign at h
  split_ifs at h with hwindow hup hdown
  · cases h
    exact ⟨.inl rfl, hwindow, by simpa using hup⟩
  · cases h
    exact ⟨.inr rfl, hwindow, by simpa using hdown⟩

/-- With a window of at most 100 cents no result is suspect in both signs, so the model names the sign (R15). -/
theorem suspectSign_of_isSuspect {c : LaneChars} {p raw sign : Int} (hwindow : c.octaveWindow ≤ 100)
    (hsign : sign = 1 ∨ sign = -1) (h : IsSuspect c p raw sign) : suspectSign c p raw = some sign := by
  obtain ⟨hon, hnear⟩ := h
  rw [abs_le] at hnear
  unfold suspectSign
  rw [if_neg hon]
  obtain rfl | rfl := hsign
  · rw [if_pos (by rw [abs_le]; omega)]
  · rw [if_neg (by rw [abs_le]; omega), if_pos (by rw [abs_le]; omega)]

theorem inLimits_iff (c : LaneChars) (x : Int) : inLimits c x = true ↔ c.lowLimit ≤ x ∧ x ≤ c.highLimit := by
  simp [inLimits]

/-- A corrected result: the pitch moved back by an octave, the run kept and the record written (R16, R17). -/
theorem octaveCheck_of_isCorrected {l : Lane} {raw sign : Int} {dir : Direction} (hwindow : l.chars.octaveWindow ≤ 100)
    (hsign : (sign = 1 ∧ dir = .up) ∨ (sign = -1 ∧ dir = .down)) (h : IsCorrected l raw sign dir) :
    octaveCheck l raw = (raw - 1200 * sign, recordCorrection l raw sign dir) := by
  obtain ⟨hsuspect, hlength, hlimits⟩ := h
  have hdir : directionOf sign = dir := by obtain ⟨rfl, rfl⟩ | ⟨rfl, rfl⟩ := hsign <;> rfl
  have named : suspectSign l.chars l.p raw = some sign :=
    suspectSign_of_isSuspect hwindow (hsign.imp And.left And.left) hsuspect
  simp only [octaveCheck, named, hdir, if_pos (And.intro hlength ((inLimits_iff _ _).2 hlimits)), recordCorrection]

/-- A result that is not corrected: the raw pitch, the run cleared, record and count unchanged (R15, R16). -/
theorem octaveCheck_of_not_isCorrected {l : Lane} {raw : Int} (hup : ¬IsCorrected l raw 1 .up)
    (hdown : ¬IsCorrected l raw (-1) .down) : octaveCheck l raw = (raw, clearOctave l) := by
  unfold octaveCheck
  split
  · rfl
  · next sign named =>
    refine if_neg fun ⟨hlength, hlimits⟩ => ?_
    obtain ⟨rfl | rfl, hsuspect⟩ := isSuspect_of_suspectSign named
    · exact hup ⟨hsuspect, hlength, (inLimits_iff _ _).1 hlimits⟩
    · exact hdown ⟨hsuspect, hlength, (inLimits_iff _ _).1 hlimits⟩

/-- The lane after the octave check and the pitch update, LOCKED: what the note decision of R7 works on. -/
def octaveChecked (l : Lane) (raw : Int) : Lane :=
  { (octaveCheck l raw).2 with p := (octaveCheck l raw).1, tracking := .locked }

/-- The octave check and the pitch update write P, the octave run, the last-correction record and the correction count, and
the state is LOCKED. -/
theorem octaveChecked_frame (l : Lane) (raw : Int) : ∃ p length dir record count, octaveChecked l raw =
    { l with tracking := .locked, p := p, octaveLength := length, octaveDirection := dir, correction := record,
             correctionCount := count } := by
  unfold octaveChecked octaveCheck
  split
  · exact ⟨_, _, _, _, _, rfl⟩
  · dsimp only
    split_ifs <;> exact ⟨_, _, _, _, _, rfl⟩

/-! ### The note decision (R19, R20) -/

/-- The confirmation run's count once a voiced result has extended it with a note (R5). -/
def extendedCount (l : Lane) (note : Int) : Nat := if l.candidate = some note then l.confirmCount + 1 else 1

theorem extendRun_eq (l : Lane) (note : Int) :
    extendRun l note = { l with candidate := some note, confirmCount := extendedCount l note } := by
  unfold extendRun extendedCount
  split_ifs with h
  · rw [← h]
  · rfl

/-- The note decision writes the confirmation run, N_cur and D = P − ref − 100·N_cur, and hands on an arrival at most. -/
theorem noteDecision_frame (l : Lane) (ref : Int) : ∃ candidate count n arrival, noteDecision l ref =
    ({ l with candidate := candidate, confirmCount := count, n := n, d := l.p - ref - 100 * n }, { arrival := arrival }) := by
  unfold noteDecision
  simp only [extendRun_eq]
  split_ifs <;> exact ⟨_, _, _, _, rfl⟩

/-- Which note the decision leaves, with what confirmation run and which arrival (R19). -/
theorem noteDecision_decides (l : Lane) (ref : Int) :
    let note := candidateNote l.p ref
    let t := (noteDecision l ref).1
    let arrival := (noteDecision l ref).2.arrival
    if note = l.n ∨ |l.p - ref - 100 * l.n| ≤ 50 + l.chars.hysteresis then
      t.n = l.n ∧ t.candidate = none ∧ t.confirmCount = 0 ∧ arrival = none
    else if l.chars.confirmFrames ≤ extendedCount l note then
      t.n = note ∧ t.candidate = none ∧ t.confirmCount = 0 ∧ arrival = some note
    else t.n = l.n ∧ t.candidate = some note ∧ t.confirmCount = extendedCount l note ∧ arrival = none := by
  have complete (note : Int) : runComplete (extendRun l note) = true ↔ l.chars.confirmFrames ≤ extendedCount l note := by
    rw [extendRun_eq]
    exact decide_eq_true_iff
  simp only [noteDecision, complete]
  rw [extendRun_eq]
  split_ifs <;> exact ⟨rfl, rfl, rfl, rfl⟩

/-! ### The result taken (R3, R4, R7, R9) -/

/-- The lane with a result counted and classed (R3, R4). -/
def countResult (l : Lane) (r : LaneResult) : Lane :=
  { l with resultCount := (l.resultCount + 1) % 65536, lastConfidence := r.confidence, lastClass := classify l.chars r }

/-- The lane as the octave check finds it: the result counted, and the counter of HOLD cleared (R9). -/
def readyLane (l : Lane) (r : LaneResult) : Lane :=
  { countResult l r with counter := if l.tracking = .hold then 0 else l.counter }

/-- LOCKED takes a voiced result by the three steps of R7, and so does HOLD with its counter cleared (R9). -/
theorem takeResult_voiced_of_locked_or_hold {l : Lane} {r : LaneResult} (ref : Int)
    (htracking : l.tracking = .locked ∨ l.tracking = .hold) (hclass : classify l.chars r = .voiced) :
    takeResult l r ref = noteDecision (octaveChecked (readyLane l r) (rawPitch r.period)) ref := by
  obtain h | h := htracking <;>
    simp [takeResult, takeVoiced, voicedLocked, octaveChecked, readyLane, countResult, hclass, h]

/-- Settles O32: the lane that the octave check leaves goes through the note decision, which changes neither its pitch nor its
octave run, record and count. -/
theorem lockedLaneFollowsVoicedResult : Obligations.LockedLaneFollowsVoicedResult := by
  intro l r ref _ htracking hclass raw c suspect length corrects t e
  have taken := takeResult_voiced_of_locked_or_hold ref htracking hclass
  have decides := noteDecision_decides (octaveChecked (readyLane l r) raw) ref
  obtain ⟨candidate, confirms, n, arrival, decided⟩ := noteDecision_frame (octaveChecked (readyLane l r) raw) ref
  rw [← taken] at decides decided
  obtain ⟨p, run, runDir, record, corrections, checked⟩ := octaveChecked_frame (readyLane l r) raw
  have lane : t = _ := congrArg Prod.fst decided
  have events : e = _ := congrArg Prod.snd decided
  have pitch : t.p = p := by rw [lane, checked]
  have framed := lane
  rw [checked] at decides framed
  refine ⟨?voiced, by rw [framed]; rfl, by rw [framed]; rfl, by rw [framed], ?fromHold, ?fromLocked, by rw [events],
    by rw [events], ?corrected, ?uncorrected, ?decision, by rw [framed], by rw [framed]; rfl, by rw [framed]; rfl,
    by rw [framed]; rfl⟩
  case voiced => rw [framed]; exact hclass
  case fromHold => intro hhold; rw [framed]; exact if_pos hhold
  case fromLocked => intro hlocked; rw [framed]; exact if_neg (by simp [hlocked])
  case corrected =>
    intro hwindow sign dir hsign hcorrects
    have accepted := octaveCheck_of_isCorrected (l := readyLane l r) hwindow hsign hcorrects
    rw [lane, octaveChecked, accepted]
    exact ⟨rfl, rfl, rfl, rfl, rfl⟩
  case uncorrected =>
    intro hup hdown
    have accepted := octaveCheck_of_not_isCorrected (l := readyLane l r) hup hdown
    rw [lane, octaveChecked, accepted]
    exact ⟨rfl, rfl, rfl, rfl, rfl⟩
  case decision => rw [pitch]; exact decides

end Sys2Proof.Machine
end

section
/-! PROOF. Harmony pitch arithmetic: the rounded logarithm of R27 and O33, the rounded root of R42 and O34. -/

namespace Sys2Proof.Machine

/-! ### Pitch from period (R27) -/

/-- 1200 · log2(num / den) of a quotient of 2400th powers, rounded to the nearest integer. -/
def roundedCents (num den : Nat) : Int :=
  if den ≤ num then (((num / den).log2 + 1) / 2 : Nat) else -((((den / num).log2 + 1) / 2 : Nat) : Int)

theorem rawPitch_eq (tp : Nat) : rawPitch tp = 5700 + roundedCents (19200 ^ 2400) ((11 * tp) ^ 2400) := rfl

/-- The floor of the logarithm, halved upward, is within one half of half the logarithm. -/
theorem half_log2_bounds {a b : Nat} (hb : 0 < b) (hab : b ≤ a) :
    2 ^ (2 * (((a / b).log2 + 1) / 2)) * b ≤ 2 * a ∧ a < 2 ^ (2 * (((a / b).log2 + 1) / 2) + 1) * b := by
  have hq : a / b ≠ 0 := (Nat.div_pos hab hb).ne'
  have low : 2 ^ (a / b).log2 * b ≤ a := (Nat.le_div_iff_mul_le hb).1 (Nat.log2_self_le hq)
  have high : a < 2 ^ ((a / b).log2 + 1) * b := (Nat.div_lt_iff_lt_mul hb).1 Nat.lt_log2_self
  generalize (a / b).log2 = m at low high
  constructor
  · calc 2 ^ (2 * ((m + 1) / 2)) * b ≤ 2 ^ (m + 1) * b := by gcongr <;> omega
      _ = 2 * (2 ^ m * b) := by ring
      _ ≤ 2 * a := by omega
  · exact high.trans_le (by gcongr <;> omega)

/-- An inequality between multiples of powers of two depends only on the difference of the exponents. -/
theorem two_pow_mul_le_of_add_eq {a b i j k l : Nat} (h : 2 ^ k * b ≤ 2 ^ j * a) (hexp : i + j = l + k) :
    2 ^ i * b ≤ 2 ^ l * a := by
  refine Nat.le_of_mul_le_mul_left ?_ (Nat.two_pow_pos j)
  calc 2 ^ j * (2 ^ i * b) = 2 ^ l * (2 ^ k * b) := by rw [← mul_assoc, ← pow_add, add_comm j, hexp, pow_add, mul_assoc]
    _ ≤ 2 ^ l * (2 ^ j * a) := Nat.mul_le_mul_left _ h
    _ = 2 ^ j * (2 ^ l * a) := mul_left_comm _ _ _

/-- Twice the rounded cents lie within 1 of twice the cents, above an offset of `e` cents that keeps the exponents positive. -/
theorem roundedCents_bounds {num den e : Nat} (hnum : 0 < num) (hden : 0 < den) (he : 1 ≤ e + roundedCents num den) :
    2 ^ (2 * (e + roundedCents num den) - 1).toNat * den ≤ 2 ^ (2 * e) * num ∧
    2 ^ (2 * e) * num ≤ 2 ^ (2 * (e + roundedCents num den) + 1).toNat * den := by
  unfold roundedCents at he ⊢
  split_ifs at he ⊢ with h
  · obtain ⟨low, high⟩ := half_log2_bounds hden h
    exact ⟨two_pow_mul_le_of_add_eq (j := 1) low (by omega),
      two_pow_mul_le_of_add_eq (k := 0) ((one_mul _).trans_le high.le) (by omega)⟩
  · obtain ⟨low, high⟩ := half_log2_bounds hnum (Nat.le_of_not_le h)
    exact ⟨two_pow_mul_le_of_add_eq (k := 0) ((one_mul _).trans_le high.le) (by omega),
      two_pow_mul_le_of_add_eq (j := 1) low (by omega)⟩

theorem roundedCents_antitone {num den den' : Nat} (hden : 0 < den) (h : den ≤ den') :
    roundedCents num den' ≤ roundedCents num den := by
  have above := Nat.log_mono_right (b := 2) (Nat.div_le_div_left h hden : num / den' ≤ num / den)
  have below := Nat.log_mono_right (b := 2) (Nat.div_le_div_right h : den / num ≤ den' / num)
  simp only [roundedCents, Nat.log2_eq_log_two]
  split_ifs <;> omega

theorem rawPitch_antitone {tp tp' : Nat} (hpos : 0 < tp) (h : tp ≤ tp') : rawPitch tp' ≤ rawPitch tp := by
  rw [rawPitch_eq, rawPitch_eq]
  gcongr 5700 + ?_
  exact roundedCents_antitone (by positivity) (by gcongr)

theorem rawPitch_bounds {tp : Nat} (hlow : 512 ≤ tp) (hhigh : tp ≤ 12800) : 2251 ≤ rawPitch tp ∧ rawPitch tp ≤ 7823 := by
  have first : rawPitch 512 = 7823 := by decide +kernel
  have last : rawPitch 12800 = 2251 := by decide +kernel
  exact ⟨last ▸ rawPitch_antitone (by omega) hhigh, first ▸ rawPitch_antitone (by omega) hlow⟩

/-- No pitch is halfway: 11 divides the one side and not the other. -/
theorem two_pow_mul_period_ne {e : Nat} (he : e ≠ 0) (i j tp : Nat) : 2 ^ i * (11 * tp) ^ e ≠ 2 ^ j * 19200 ^ e := by
  have hprime : Nat.Prime 11 := by decide
  intro h
  have hdvd : 11 ∣ 2 ^ j * 19200 ^ e := h ▸ Dvd.dvd.mul_left (dvd_pow (Dvd.intro tp rfl) he) _
  obtain h2 | h19200 := hprime.dvd_mul.1 hdvd
  · exact absurd (hprime.dvd_of_dvd_pow h2) (by decide)
  · exact absurd (hprime.dvd_of_dvd_pow h19200) (by decide)

/-- Settles O33: the pitch falls with the period, so the two ends of the range bound it, and the rounded logarithm is never
halfway. -/
theorem rawPitchIsExactlyRounded : Obligations.RawPitchIsExactlyRounded := by
  intro tp hlow hhigh
  obtain ⟨hmin, hmax⟩ := rawPitch_bounds hlow hhigh
  have rounded := roundedCents_bounds (num := 19200 ^ 2400) (den := (11 * tp) ^ 2400) (e := 5700)
    (by positivity) (by positivity)
  rw [Nat.cast_ofNat, ← rawPitch_eq, show 2 * 5700 = 11400 from rfl] at rounded
  obtain ⟨low, high⟩ := rounded (by omega)
  have notHalfway := two_pow_mul_period_ne (by decide : 2400 ≠ 0)
  exact ⟨hmin, hmax, low.lt_of_ne (notHalfway _ _ tp), high.lt_of_ne (notHalfway _ _ tp).symm⟩

/-! ### Interval to ratio (R42) -/

/-- The bits chosen from the top down give the integer 1200th root. -/
theorem rootBits_bounds {n bits acc : Nat} (hlow : acc ^ 1200 ≤ n) (hhigh : n < (acc + 2 ^ bits) ^ 1200) :
    rootBits n bits acc ^ 1200 ≤ n ∧ n < (rootBits n bits acc + 1) ^ 1200 := by
  induction bits generalizing acc with
  | zero =>
    simp only [Nat.pow_zero] at hhigh
    simp only [rootBits]
    exact ⟨hlow, hhigh⟩
  | succ bits ih =>
    unfold rootBits
    split_ifs with h
    · have double : acc + 2 ^ bits + 2 ^ bits = acc + 2 ^ (bits + 1) := by ring
      exact ih h (by rw [double]; exact hhigh)
    · exact ih hlow (not_le.1 h)

theorem compute_ratio (v : Voice) (c : VoiceContext) : (compute v c).ratio = ratioOf (compute v c).delta := rfl

/-- Settles O34: the ratio is the half, rounded up, of the integer root of a power between 2^18000 and 2^22800. -/
theorem ratioIsExactlyRounded : Obligations.RatioIsExactlyRounded := by
  intro delta hlow hhigh
  obtain ⟨root_le, lt_root⟩ := rootBits_bounds (n := 2 ^ (20400 + delta).toNat) (bits := 20) (acc := 0)
    (by simp) (by rw [zero_add, ← pow_mul]; exact pow_lt_pow_right₀ one_lt_two (by omega))
  have hmin : 2 ^ 15 < rootBits (2 ^ (20400 + delta).toNat) 20 0 + 1 := by
    refine lt_of_pow_lt_pow_left₀ 1200 (Nat.zero_le _) (lt_of_le_of_lt ?_ lt_root)
    rw [← pow_mul]
    exact pow_le_pow_right₀ one_le_two (by omega)
  have hmax : rootBits (2 ^ (20400 + delta).toNat) 20 0 ≤ 2 ^ 19 := by
    refine le_of_pow_le_pow_left₀ (by decide : 1200 ≠ 0) (Nat.zero_le _) (root_le.trans ?_)
    rw [← pow_mul]
    exact pow_le_pow_right₀ one_le_two (by omega)
  have halved : ratioOf delta = (rootBits (2 ^ (20400 + delta).toNat) 20 0 + 1) / 2 := rfl
  refine ⟨by omega, by omega, ?_, ?_, fun v c h => h ▸ compute_ratio v c⟩
  · refine le_trans ?_ root_le
    gcongr
    omega
  · refine lt_root.trans_le ?_
    gcongr
    omega

end Sys2Proof.Machine
end

section
/-! PROOF. SCALE steps and CHORD ranks count notes: the key's members enumerated by degree (R30, R31, R105), the chord notes
by their distance from N_cur (R33), and O35. -/

namespace Sys2Proof.Machine

/-! ### Ascending lists -/

/-- In an ascending list the elements at most `r` come first, so their number tells where they end. -/
theorem getElem_le_iff_lt_length_filter {l : List Nat} (hl : l.Pairwise (· < ·)) {r i : Nat} (hi : i < l.length) :
    l[i] ≤ r ↔ i < (l.filter (· ≤ r)).length := by
  induction l generalizing i with
  | nil => simp at hi
  | cons x xs ih =>
    obtain ⟨hx, hxs⟩ := List.pairwise_cons.1 hl
    by_cases hxr : x ≤ r
    · cases i with
      | zero => simp [hxr]
      | succ i => simpa [hxr] using ih hxs (by simpa using hi)
    · have none : xs.filter (· ≤ r) = [] := List.filter_eq_nil_iff.2 fun y hy => by
        have := hx y hy
        simp only [decide_eq_true_eq]
        omega
      have hxi : x ≤ (x :: xs)[i] := by
        cases i with
        | zero => exact le_rfl
        | succ i => exact (hx _ (List.getElem_mem _)).le
      simp only [List.filter_cons, decide_eq_true_eq, if_neg hxr, none, List.length_nil]
      omega

/-- As many elements as its index and one are at most an element of an ascending list. -/
theorem length_filter_le_getElem {l : List Nat} (hl : l.Pairwise (· < ·)) {j : Nat} (hj : j < l.length) :
    (l.filter (· ≤ l[j])).length = j + 1 := by
  have included := (getElem_le_iff_lt_length_filter hl hj).1 le_rfl
  refine (Nat.succ_le_of_lt included).antisymm' (not_lt.1 fun hlt => ?_)
  have hnext : j + 1 < l.length := hlt.trans_le (List.length_filter_le _ _)
  have hle := (getElem_le_iff_lt_length_filter hl hnext).2 hlt
  have hgt := List.pairwise_iff_getElem.1 hl j (j + 1) hj hnext (Nat.lt_succ_self j)
  omega

theorem filter_range_pairwise_lt (q : Nat → Bool) (b : Nat) : ((List.range b).filter q).Pairwise (· < ·) :=
  List.pairwise_lt_range.filter q

/-! ### The key's members by degree (R30, R105) -/

section
variable {m : KeyMap}

theorem mem_degreeList {i : Nat} : i ∈ degreeList m ↔ i < 12 ∧ inPitchSet m.members (m.tonic.val + i) = true := by
  simp [degreeList]

theorem degreeList_pairwise_lt : (degreeList m).Pairwise (· < ·) := filter_range_pairwise_lt _ _

/-- The pitch class of a note depends on its remainder above the tonic only. -/
theorem inPitchSet_congr (set : PitchSet) {x y : Int} (h : x % 12 = y % 12) : inPitchSet set x = inPitchSet set y := by
  rw [inPitchSet, inPitchSet, pitchClass, pitchClass, h]

/-- The key member of degree `j` counted from the tonic of octave 0, in all octaves (R30). -/
def degreeNote (m : KeyMap) (j : Int) : Int :=
  m.tonic.val + 12 * (j / (degreeList m).length) + (degreeList m).getD (j % (degreeList m).length).toNat 0

/-- Degree `i` of octave `o`. -/
theorem degreeNote_mul_add {o : Int} {i : Nat} (hi : i < (degreeList m).length) :
    degreeNote m ((degreeList m).length * o + i) = m.tonic.val + 12 * o + (degreeList m)[i] := by
  have hpos : (0 : Int) < (degreeList m).length := by omega
  have hdiv : ((degreeList m).length * o + i : Int) / (degreeList m).length = o := by
    rw [Int.mul_add_ediv_left _ _ hpos.ne', Int.ediv_eq_zero_of_lt (by omega) (by omega), add_zero]
  have hmod : (((degreeList m).length * o + i : Int) % (degreeList m).length).toNat = i := by
    rw [Int.mul_add_emod_self_left, Int.emod_eq_of_lt (by omega) (by omega), Int.toNat_natCast]
  rw [degreeNote, hdiv, hmod, List.getD_eq_getElem _ _ hi]

theorem degreeNote_surjective {x : Int} (hx : inPitchSet m.members x = true) : ∃ j, degreeNote m j = x := by
  have hmem : ((x - m.tonic.val) % 12).toNat ∈ degreeList m :=
    mem_degreeList.2 ⟨by omega, by rw [← hx]; exact inPitchSet_congr _ (by omega)⟩
  obtain ⟨i, hi, hoffset⟩ := List.getElem_of_mem hmem
  refine ⟨(degreeList m).length * ((x - m.tonic.val) / 12) + i, ?_⟩
  rw [degreeNote_mul_add hi, hoffset]
  omega

/-- The next degree inside an octave. -/
theorem degreeNote_succ_of_lt {o : Int} {i : Nat} (hnext : i + 1 < (degreeList m).length) :
    degreeNote m ((degreeList m).length * o + i + 1) = m.tonic.val + 12 * o + (degreeList m)[i + 1] := by
  rw [← degreeNote_mul_add hnext]
  push_cast
  rw [add_assoc]

/-- After an octave's last degree comes the next octave. -/
theorem le_degreeNote_succ_of_last {o : Int} {i : Nat} (hlast : i + 1 = (degreeList m).length) :
    m.tonic.val + 12 * (o + 1) ≤ degreeNote m ((degreeList m).length * o + i + 1) := by
  have hpos : 0 < (degreeList m).length := by omega
  have next : ((degreeList m).length * o + i + 1 : Int) = (degreeList m).length * (o + 1) + (0 : Nat) := by
    rw [← hlast]
    push_cast
    ring
  rw [next, degreeNote_mul_add hpos]
  omega

variable (htonic : inPitchSet m.members m.tonic.val = true)
include htonic

theorem zero_mem_degreeList : 0 ∈ degreeList m :=
  mem_degreeList.2 ⟨by decide, by simpa using htonic⟩

theorem degreeList_length_pos : 0 < (degreeList m).length :=
  List.length_pos_of_mem (zero_mem_degreeList htonic)

/-- Every number of degrees is an octave and a degree of it. -/
theorem exists_octave_degree (j : Int) :
    ∃ (o : Int) (i : Nat), i < (degreeList m).length ∧ j = (degreeList m).length * o + i := by
  have hpos := degreeList_length_pos htonic
  have hmod := Int.emod_nonneg j (b := (degreeList m).length) (by omega)
  have hlt := Int.emod_lt_of_pos j (b := (degreeList m).length) (by omega)
  refine ⟨j / (degreeList m).length, (j % (degreeList m).length).toNat, by omega, ?_⟩
  rw [Int.toNat_of_nonneg hmod, Int.mul_ediv_add_emod]

theorem inPitchSet_degreeNote (j : Int) : inPitchSet m.members (degreeNote m j) = true := by
  obtain ⟨o, i, hi, rfl⟩ := exists_octave_degree htonic j
  rw [degreeNote_mul_add hi, ← (mem_degreeList.1 (List.getElem_mem hi)).2]
  exact inPitchSet_congr _ (by omega)

theorem degreeNote_strictMono : StrictMono (degreeNote m) := by
  refine strictMono_int_of_lt_succ fun j => ?_
  obtain ⟨o, i, hi, rfl⟩ := exists_octave_degree htonic j
  rw [degreeNote_mul_add hi]
  obtain hnext | hlast : i + 1 < (degreeList m).length ∨ i + 1 = (degreeList m).length := by omega
  · have hlt := List.pairwise_iff_getElem.1 degreeList_pairwise_lt i (i + 1) hi hnext (by omega)
    rw [degreeNote_succ_of_lt hnext]
    omega
  · have hlt := (mem_degreeList.1 (List.getElem_mem hi)).1
    have hnext := le_degreeNote_succ_of_last (o := o) hlast
    omega

/-- The key members passed between two degrees are as many as the degrees. -/
theorem card_filter_degreeNote (a b : Int) :
    ((Finset.Ioc (degreeNote m a) (degreeNote m b)).filter fun x => inPitchSet m.members x = true).card = (b - a).toNat := by
  have mono := degreeNote_strictMono htonic
  have enumerated : ((Finset.Ioc (degreeNote m a) (degreeNote m b)).filter fun x => inPitchSet m.members x = true) =
      (Finset.Ioc a b).image (degreeNote m) := by
    ext x
    simp only [Finset.mem_filter, Finset.mem_Ioc, Finset.mem_image]
    constructor
    · rintro ⟨⟨hlow, hhigh⟩, hx⟩
      obtain ⟨j, rfl⟩ := degreeNote_surjective hx
      exact ⟨j, ⟨mono.lt_iff_lt.1 hlow, mono.le_iff_le.1 hhigh⟩, rfl⟩
    · rintro ⟨j, ⟨hlow, hhigh⟩, rfl⟩
      exact ⟨⟨mono hlow, mono.monotone hhigh⟩, inPitchSet_degreeNote htonic j⟩
  rw [enumerated, Finset.card_image_of_injective _ mono.injective, Int.card_Ioc]

/-! ### The SCALE step (R30, R31) -/

/-- The degrees from the tonic of octave 0 up to the nearest key member at or below a note (R30). -/
def noteDegree (m : KeyMap) (n : Int) : Int :=
  (degreeList m).length * ((n - m.tonic.val) / 12) + degreeOf (degreeList m) ((n - m.tonic.val) % 12).toNat

/-- The degree of a remainder is that of the largest offset at most the remainder (R30). -/
theorem getElem_le_iff_le_degreeOf {r i : Nat} (hi : i < (degreeList m).length) :
    (degreeList m)[i] ≤ r ↔ i ≤ degreeOf (degreeList m) r := by
  have hzero : 0 ∈ (degreeList m).filter (· ≤ r) := List.mem_filter.2 ⟨zero_mem_degreeList htonic, by simp⟩
  have hpos := List.length_pos_of_mem hzero
  rw [getElem_le_iff_lt_length_filter degreeList_pairwise_lt hi, degreeOf]
  omega

theorem degreeOf_lt_length (r : Nat) : degreeOf (degreeList m) r < (degreeList m).length := by
  have hpos := degreeList_length_pos htonic
  have hle := List.length_filter_le (· ≤ r) (degreeList m)
  simp only [degreeOf]
  omega

theorem degreeNote_noteDegree_le (n : Int) : degreeNote m (noteDegree m n) ≤ n := by
  have hd := degreeOf_lt_length htonic ((n - m.tonic.val) % 12).toNat
  have hle := (getElem_le_iff_le_degreeOf htonic hd).2 le_rfl
  rw [noteDegree, degreeNote_mul_add hd]
  omega

theorem lt_degreeNote_noteDegree_add_one (n : Int) : n < degreeNote m (noteDegree m n + 1) := by
  have hd := degreeOf_lt_length htonic ((n - m.tonic.val) % 12).toNat
  rw [noteDegree]
  obtain hnext | hlast := Nat.lt_or_eq_of_le (Nat.add_one_le_of_lt hd)
  · have hgt := mt (getElem_le_iff_le_degreeOf htonic hnext).1 (Nat.not_succ_le_self _)
    rw [degreeNote_succ_of_lt hnext]
    omega
  · have hnext := le_degreeNote_succ_of_last (o := (n - m.tonic.val) / 12) hlast
    omega

/-- A SCALE step moves the key member by `k` degrees and keeps the note's distance above it (R31). -/
theorem scaleNote_eq (n k : Int) :
    scaleNote m n k = degreeNote m (noteDegree m n + k) + (n - degreeNote m (noteDegree m n)) := by
  have hd := degreeOf_lt_length htonic ((n - m.tonic.val) % 12).toNat
  have hle := (getElem_le_iff_le_degreeOf htonic hd).2 le_rfl
  have hpos : ((degreeList m).length : Int) ≠ 0 := by omega
  have member : degreeNote m (noteDegree m n) = _ := degreeNote_mul_add hd
  rw [member]
  simp only [scaleNote, noteDegree, degreeNote, add_assoc, Int.mul_add_ediv_left _ _ hpos, Int.mul_add_emod_self_left,
    List.getD_eq_getElem _ _ hd]
  omega

/-- The nearest key member at or below a note is the one of the note's degree. -/
theorem eq_degreeNote_noteDegree {n x : Int} (hle : x ≤ n) (hx : inPitchSet m.members x = true)
    (hnearest : ∀ y, x < y → y ≤ n → ¬inPitchSet m.members y = true) :
    x = degreeNote m (noteDegree m n) := by
  have mono := degreeNote_strictMono htonic
  obtain ⟨j, rfl⟩ := degreeNote_surjective hx
  have hj : j ≤ noteDegree m n :=
    Int.lt_add_one_iff.1 (mono.lt_iff_lt.1 (hle.trans_lt (lt_degreeNote_noteDegree_add_one htonic n)))
  refine (mono.monotone hj).antisymm (not_lt.1 fun hlt => ?_)
  exact hnearest _ hlt (degreeNote_noteDegree_le htonic n) (inPitchSet_degreeNote htonic _)

/-- A SCALE step lands `k` key members on: one of the two windows is empty, and the other holds `|k|` of them. -/
theorem scaleNote_counts {n c : Int} (k : Int) (hc : 0 ≤ c) (hkey : inPitchSet m.members (n - c) = true)
    (hnearest : ∀ y, n - c < y → y ≤ n → ¬inPitchSet m.members y = true) :
    inPitchSet m.members (scaleNote m n k - c) = true ∧
    ((Finset.Ioc (n - c) (scaleNote m n k - c)).filter fun x => inPitchSet m.members x = true).card = k.toNat ∧
    ((Finset.Ioc (scaleNote m n k - c) (n - c)).filter fun x => inPitchSet m.members x = true).card = (-k).toNat := by
  have start := eq_degreeNote_noteDegree htonic (by omega) hkey hnearest
  have landed : scaleNote m n k - c = degreeNote m (noteDegree m n + k) := by
    rw [scaleNote_eq htonic, ← start]
    omega
  rw [landed, start, card_filter_degreeNote htonic, card_filter_degreeNote htonic]
  exact ⟨inPitchSet_degreeNote htonic _, by congr 1; omega, by congr 1; omega⟩

end

/-! ### The CHORD rank (R33) -/

/-- The distances below 48 at which the notes in the direction `dir` of `n` are of the set; distance 0 is the first note
after `n`. -/
def chordDistances (set : PitchSet) (n dir : Int) : List Nat :=
  (List.range 48).filter fun i => inPitchSet set (n + dir * (i + 1))

theorem mem_chordDistances {set : PitchSet} {n dir : Int} {i : Nat} :
    i ∈ chordDistances set n dir ↔ i < 48 ∧ inPitchSet set (n + dir * (i + 1)) = true := by
  simp [chordDistances]

theorem chordDistances_pairwise_lt {set : PitchSet} {n dir : Int} : (chordDistances set n dir).Pairwise (· < ·) :=
  filter_range_pairwise_lt _ _

theorem chordMatches_eq (set : PitchSet) (n : Int) {k dir : Int} (hdir : (0 ≤ k ∧ dir = 1) ∨ (k < 0 ∧ dir = -1)) :
    chordMatches set n k = (chordDistances set n dir).map fun i : Nat => n + dir * (i + 1) := by
  have note : (fun i : Int => if 0 ≤ k then n + (i + 1) else n - (i + 1)) = fun i => n + dir * (i + 1) := by
    funext i
    obtain ⟨hk, rfl⟩ | ⟨hk, rfl⟩ := hdir <;> split_ifs <;> omega
  rw [chordMatches, note, bind_pure_comp, List.map_eq_map, List.map_map, List.filter_map, chordDistances]
  rfl

/-- 48 notes hold the fourth match of any non-empty set: a pitch class of it comes once in each of the four octaves. -/
theorem four_le_length_chordDistances {set : PitchSet} (hset : set ≠ 0) (n : Int) {dir : Int} (hdir : dir = 1 ∨ dir = -1) :
    4 ≤ (chordDistances set n dir).length := by
  obtain ⟨p, hp12, hp⟩ : ∃ p < 12, set.getLsbD p = true := by
    by_contra hnone
    refine hset (BitVec.eq_of_getLsbD_eq fun i hi => ?_)
    simpa using fun hp => hnone ⟨i, hi, hp⟩
  obtain ⟨i, hi, hclass⟩ : ∃ i : Nat, i < 12 ∧ (n + dir * (i + 1)) % 12 = p := by
    refine ⟨((dir * (p - n) - 1) % 12).toNat, by omega, ?_⟩
    obtain rfl | rfl := hdir <;> omega
  have hmem (a : Nat) (ha : a < 4) : i + 12 * a ∈ chordDistances set n dir := by
    have same : (n + dir * ((i + 12 * a : Nat) + 1)) % 12 = p := by
      obtain rfl | rfl := hdir <;> omega
    refine mem_chordDistances.2 ⟨by omega, ?_⟩
    rw [inPitchSet, pitchClass, same, Int.toNat_natCast, hp]
  have hsub : (List.range 4).map (i + 12 * ·) ⊆ chordDistances set n dir := by
    intro x hx
    obtain ⟨a, ha, rfl⟩ := List.mem_map.1 hx
    exact hmem a (List.mem_range.1 ha)
  have hnodup : ((List.range 4).map (i + 12 * ·)).Nodup := List.nodup_range.map fun a b h => by simpa using h
  simpa using (hnodup.subperm hsub).length_le

/-- The rank counts the matches in the window of notes from the first one after `n` to the one with that rank. -/
theorem card_filter_window {set : PitchSet} {n dir : Int} (hdir : dir ≠ 0) {j : Nat}
    (hj : j < (chordDistances set n dir).length) {window : Finset Int}
    (hwindow : ∀ x, x ∈ window ↔ ∃ i : Nat, i ≤ (chordDistances set n dir)[j] ∧ n + dir * (i + 1) = x) :
    (window.filter fun x => inPitchSet set x = true).card = j + 1 := by
  have ascending := chordDistances_pairwise_lt (set := set) (n := n) (dir := dir)
  have enumerated : (window.filter fun x => inPitchSet set x = true) =
      ((chordDistances set n dir).filter (· ≤ (chordDistances set n dir)[j])).toFinset.image
        fun i : Nat => n + dir * (i + 1) := by
    have hlast := (mem_chordDistances.1 (List.getElem_mem hj)).1
    ext x
    simp only [Finset.mem_filter, hwindow, Finset.mem_image, List.mem_toFinset, List.mem_filter, mem_chordDistances,
      decide_eq_true_eq]
    constructor
    · rintro ⟨⟨i, hi, rfl⟩, hx⟩
      exact ⟨i, ⟨⟨by omega, hx⟩, hi⟩, rfl⟩
    · rintro ⟨i, ⟨⟨_, hx⟩, hi⟩, rfl⟩
      exact ⟨⟨i, hi, rfl⟩, hx⟩
  have injective : Function.Injective fun i : Nat => n + dir * ((i : Int) + 1) := fun a b h => by
    simpa [hdir] using h
  rw [enumerated, Finset.card_image_of_injective _ injective,
    List.toFinset_card_of_nodup (ascending.nodup.filter _), length_filter_le_getElem ascending hj]

/-- The note of a rank is the one at the distance with the rank's index. -/
theorem chordNote_eq {set : PitchSet} {n k dir : Int} (hdir : (0 ≤ k ∧ dir = 1) ∨ (k < 0 ∧ dir = -1))
    (hj : k.natAbs - 1 < (chordDistances set n dir).length) :
    chordNote set n k = n + dir * ((chordDistances set n dir)[k.natAbs - 1] + 1) := by
  rw [chordNote, chordMatches_eq set n hdir, List.getD_eq_getElem _ _ (by simpa using hj), List.getElem_map]

/-- A CHORD rank of either sign counts the chord notes after N_cur. -/
theorem chordNote_counts {set : PitchSet} (hset : set ≠ 0) (n : Int) {k : Int} (hrank : |k| ≤ 4) :
    inPitchSet set (chordNote set n k) = true ∧
    (0 < k → n < chordNote set n k ∧
      ((Finset.Ioc n (chordNote set n k)).filter fun x => inPitchSet set x = true).card = k.toNat) ∧
    (k < 0 → chordNote set n k < n ∧
      ((Finset.Ico (chordNote set n k) n).filter fun x => inPitchSet set x = true).card = (-k).toNat) := by
  obtain ⟨dir, hdir⟩ : ∃ dir : Int, (0 ≤ k ∧ dir = 1) ∨ (k < 0 ∧ dir = -1) := by
    obtain hk | hk := le_or_gt 0 k
    · exact ⟨1, .inl ⟨hk, rfl⟩⟩
    · exact ⟨-1, .inr ⟨hk, rfl⟩⟩
  have hj : k.natAbs - 1 < (chordDistances set n dir).length := by
    have hfour := four_le_length_chordDistances hset n (dir := dir) (by omega)
    rw [Int.abs_eq_natAbs] at hrank
    omega
  rw [chordNote_eq hdir hj]
  refine ⟨(mem_chordDistances.1 (List.getElem_mem hj)).2, fun hk => ?up, fun hk => ?down⟩
  case up =>
    obtain rfl : dir = 1 := by omega
    refine ⟨by omega, (card_filter_window one_ne_zero hj fun x => ?_).trans (by omega)⟩
    rw [Finset.mem_Ioc]
    constructor
    · intro hx
      exact ⟨(x - n - 1).toNat, by omega, by omega⟩
    · rintro ⟨i, hi, rfl⟩
      omega
  case down =>
    obtain rfl : dir = -1 := by omega
    refine ⟨by omega, (card_filter_window (by decide) hj fun x => ?_).trans (by omega)⟩
    rw [Finset.mem_Ico]
    constructor
    · intro hx
      exact ⟨(n - x - 1).toNat, by omega, by omega⟩
    · rintro ⟨i, hi, rfl⟩
      omega

/-- Settles O35: a SCALE step by the enumeration of the key's members by degree, a CHORD rank by the ascending list of the
distances at which the chord notes stand. -/
theorem scaleAndChordStepsCountNotes : Obligations.ScaleAndChordStepsCountNotes := by
  constructor
  · intro m n c k htonic key hc hkey hnearest landed
    have htonic' : inPitchSet m.members m.tonic.val = true := by
      rw [inPitchSet, pitchClass, Int.emod_eq_of_lt (by omega) (by omega), Int.toNat_natCast, htonic]
    obtain ⟨hlanded, hup, hdown⟩ := scaleNote_counts htonic' k hc hkey hnearest
    exact ⟨hlanded, fun _ => hup, fun _ => hdown⟩
  · intro set n k hset _ hrank
    exact chordNote_counts hset n hrank

end Sys2Proof.Machine
end

section
/-! PROOF. The parts that the voice commands of the control port share: the taking's frame, slots and handles, places in the
queue, the holder of a tag. -/

namespace Sys2Proof.Machine

/-! ### What the taking of a command leaves -/

@[simp] theorem atTaking_voices (s : State) (c : Command) : (atTaking s c).voices = s.voices := by
  obtain ⟨p, h⟩ := atTaking_frame s c
  rw [h]

@[simp] theorem atTaking_queue (s : State) (c : Command) : (atTaking s c).queue = s.queue := by
  obtain ⟨p, h⟩ := atTaking_frame s c
  rw [h]

@[simp] theorem atTaking_cue (s : State) (c : Command) : (atTaking s c).cue = s.cue := by
  obtain ⟨p, h⟩ := atTaking_frame s c
  rw [h]

theorem room_atTaking (s : State) (c : Command) : Room (atTaking s c) ↔ Room s := by
  rw [Room, atTaking_queue, atTaking_cue]

/-! ### Places in the queue (R91, R92) -/

theorem hasPlace_control_iff (s : State) : hasPlace s .control = true ↔ Room s := by
  simp [hasPlace_iff]

theorem State.withPlace_of_room {s : State} (a : Answer) (h : Room s) : s.withPlace a = a :=
  if_pos ((hasPlace_control_iff s).2 h)

theorem State.withPlace_of_not_room {s : State} (a : Answer) (h : ¬Room s) :
    s.withPlace a = .refused .queueFull s.queue.length :=
  if_neg (mt (hasPlace_control_iff s).1 h)

/-- A command of the required length that stages one entry: QUEUE_FULL with the depth, or the entry at the queue's end. -/
theorem State.runCommand_stages {s : State} {c : Command} {act : State → Answer} {e : Entry} {bytes : List Byte}
    (h : Takes s c) (hl : requiredLength c.code = some c.frame.declared.toNat)
    (ha : act (atTaking s c) = (atTaking s c).withPlace (.done ((atTaking s c).stage e) bytes)) :
    s.runCommand c act =
      if ¬Room s then refusedState (atTaking s c) 3 11 c.code (BitVec.ofNat 8 s.queue.length)
      else doneState { atTaking s c with queue := s.queue ++ [e] } bytes := by
  have hplace := room_atTaking s c
  by_cases hroom : Room s
  · rw [State.runCommand_done h hl (ha.trans (State.withPlace_of_room _ (hplace.2 hroom))), if_neg (not_not_intro hroom),
      State.stage, atTaking_queue]
  · rw [State.runCommand_refused h hl (ha.trans (State.withPlace_of_not_room _ (mt hplace.1 hroom))), if_pos hroom,
      atTaking_queue]
    rfl

/-! ### Slots and handles (R47) -/

theorem slotOf?_of_ge {b : Byte} (h : 16 ≤ b.toNat) : slotOf? b = none := dif_neg (by omega)

theorem slotOf?_of_eq {b : Byte} {i : Slot} (h : b.toNat = i.val) : slotOf? b = some i := by
  have hlt : b.toNat < 16 := h ▸ i.isLt
  rw [slotOf?, dif_pos hlt]
  exact congrArg some (Fin.ext h)

section
variable {s : State} {slot generation : Byte}

theorem checkHandle_of_ge (h : 16 ≤ slot.toNat) : checkHandle s slot generation = .badSlot := by
  rw [checkHandle, slotOf?_of_ge h]

variable {i : Slot} (h : slot.toNat = i.val)
include h

theorem checkHandle_of_stale (hstale : s.voices[i].state = .free ∨ s.voices[i].generation.val ≠ generation.toNat) :
    checkHandle s slot generation = .stale := by
  rw [checkHandle, slotOf?_of_eq h]
  exact if_neg fun ⟨hused, hgeneration⟩ => hstale.elim hused (· hgeneration)

theorem checkHandle_of_not_stale
    (hcurrent : ¬(s.voices[i].state = .free ∨ s.voices[i].generation.val ≠ generation.toNat)) :
    checkHandle s slot generation = .current { slot := i, generation := s.voices[i].generation } := by
  rw [checkHandle, slotOf?_of_eq h]
  rw [not_or, not_not] at hcurrent
  exact if_pos hcurrent

end

/-! ### The holder of a tag (R48) -/

/-- A voice of lane `k` that is not FREE carries the tag. -/
def HoldsTag (s : State) (k : LaneId) (tag : Nat) (i : Slot) : Prop :=
  s.voices[i].state ≠ .free ∧ s.voices[i].template.lane = k ∧ s.voices[i].template.tag = tag

theorem tagHolder_eq_none_iff {s : State} {k : LaneId} {tag : Nat} :
    tagHolder s k tag = none ↔ ∀ i, ¬HoldsTag s k tag i := by
  simp [tagHolder, HoldsTag]

/-- The holder found is the lowest slot that carries the tag. -/
theorem tagHolder_eq_some_iff {s : State} {k : LaneId} {tag : Nat} {i : Slot} :
    tagHolder s k tag = some i ↔ HoldsTag s k tag i ∧ ∀ j < i, ¬HoldsTag s k tag j := by
  simp [tagHolder, ← Fin.find?_eq_find?_finRange, HoldsTag]

end Sys2Proof.Machine
end

section
/-! PROOF. RETIRE VOICE and RETIRE LANE (R66, R69). -/

namespace Sys2Proof.Machine

/-! ### Retire modes and owner filters -/

theorem retireModeOf?_of_gt {b : Byte} (h : 1 < b.toNat) : retireModeOf? b = none := by
  rw [retireModeOf?, if_neg (by bv_omega), if_neg (by bv_omega)]

theorem retireModeOf?_of_le {b : Byte} (h : ¬1 < b.toNat) :
    retireModeOf? b = some (if b = 0 then .release else .kill) := by
  have hcode : b = 0 ∨ b = 1 := by bv_omega
  obtain rfl | rfl := hcode <;> rfl

theorem ownerFilterOf?_of_gt {b : Byte} (h : 2 < b.toNat) : ownerFilterOf? b = none := by
  rw [ownerFilterOf?, if_neg (by bv_omega), if_neg (by bv_omega), if_neg (by bv_omega)]

theorem ownerFilterOf?_of_le {b : Byte} (h : ¬2 < b.toNat) :
    ownerFilterOf? b = some (if b = 0 then .all else if b = 1 then .control else .scene) := by
  have hcode : b = 0 ∨ b = 1 ∨ b = 2 := by bv_omega
  obtain rfl | rfl | rfl := hcode <;> rfl

/-! ### The answers of RETIRE VOICE -/

section
variable {f : CommandFrame} {s : State}

theorem answerRetireVoice_badTarget (h : 16 ≤ f.operands[0].toNat) :
    answerRetireVoice f s = .refused .badTarget f.operands[0].toNat := by
  simp [answerRetireVoice, operand, checkHandle_of_ge h]

variable {i : Slot} (h : f.operands[0].toNat = i.val)
include h

theorem answerRetireVoice_staleHandle
    (hstale : s.voices[i].state = .free ∨ s.voices[i].generation.val ≠ f.operands[1].toNat) :
    answerRetireVoice f s = .refused .staleHandle f.operands[0].toNat := by
  simp [answerRetireVoice, operand, checkHandle_of_stale h hstale]

variable (hcurrent : ¬(s.voices[i].state = .free ∨ s.voices[i].generation.val ≠ f.operands[1].toNat))
include hcurrent

theorem answerRetireVoice_badParam (hmode : 1 < f.operands[2].toNat) :
    answerRetireVoice f s = .refused .badParam f.operands[0].toNat := by
  simp [answerRetireVoice, operand, checkHandle_of_not_stale h hcurrent, retireModeOf?_of_gt hmode, h]

theorem answerRetireVoice_stages (hmode : ¬1 < f.operands[2].toNat) :
    answerRetireVoice f s = s.withPlace (.done
      (s.stage (.retire { slot := i, generation := s.voices[i].generation }
        (if f.operands[2] = 0 then .release else .kill))) []) := by
  simp [answerRetireVoice, operand, checkHandle_of_not_stale h hcurrent, retireModeOf?_of_le hmode]

end

/-! ### The answers of RETIRE LANE -/

section
variable {f : CommandFrame} {s : State}

theorem answerRetireLane_badTarget (h : 4 ≤ f.operands[0].toNat) :
    answerRetireLane f s = .refused .badTarget f.operands[0].toNat := by
  simp [answerRetireLane, operand, laneOf?_of_ge h]

variable {k : LaneId} (h : f.operands[0].toNat = k.val)
include h

theorem answerRetireLane_badParam (hoperands : 1 < f.operands[1].toNat ∨ 2 < f.operands[2].toNat) :
    answerRetireLane f s = .refused .badParam f.operands[0].toNat := by
  obtain hmode | hfilter := hoperands
  · simp [answerRetireLane, operand, laneOf?_of_eq h, retireModeOf?_of_gt hmode, h]
  · simp [answerRetireLane, operand, laneOf?_of_eq h, ownerFilterOf?_of_gt hfilter, h]

theorem answerRetireLane_stages (hoperands : ¬(1 < f.operands[1].toNat ∨ 2 < f.operands[2].toNat)) :
    answerRetireLane f s = s.withPlace (.done
      (s.stage (.retireLane k (if f.operands[1] = 0 then .release else .kill)
        (if f.operands[2] = 0 then .all else if f.operands[2] = 1 then .control else .scene))) []) := by
  obtain ⟨hmode, hfilter⟩ := not_or.1 hoperands
  simp [answerRetireLane, operand, laneOf?_of_eq h, retireModeOf?_of_le hmode, ownerFilterOf?_of_le hfilter]

end

/-! ### The two rows -/

/-- Settles O19: each row by its answers, one for every check that can fail and one for the entry staged. -/
theorem retireCommandsStage : Obligations.RetireCommandsStage := by
  refine ⟨fun s f htakes hlength => ?voice, fun s f htakes hlength => ?lane⟩
  case voice =>
    have hl : requiredLength 0x22 = some f.declared.toNat := by rw [hlength]; rfl
    refine ⟨fun hslot => congrArg _ (State.runCommand_refused_byte htakes hl (answerRetireVoice_badTarget hslot)),
      fun i hslot => congrArg Host.Outcome.next ?_⟩
    have hvoices := atTaking_voices s ⟨0x22, f⟩
    rw [← hvoices]
    split
    case isTrue hstale => exact State.runCommand_refused_byte htakes hl (answerRetireVoice_staleHandle hslot hstale)
    case isFalse hcurrent =>
      split
      case isTrue hmode => exact State.runCommand_refused_byte htakes hl (answerRetireVoice_badParam hslot hcurrent hmode)
      case isFalse hmode => exact State.runCommand_stages htakes hl (answerRetireVoice_stages hslot hcurrent hmode)
  case lane =>
    have hl : requiredLength 0x23 = some f.declared.toNat := by rw [hlength]; rfl
    refine ⟨fun hlane => congrArg _ (State.runCommand_refused_byte htakes hl (answerRetireLane_badTarget hlane)),
      fun k hlane => congrArg Host.Outcome.next ?_⟩
    split
    case isTrue hoperands => exact State.runCommand_refused_byte htakes hl (answerRetireLane_badParam hlane hoperands)
    case isFalse hoperands => exact State.runCommand_stages htakes hl (answerRetireLane_stages hlane hoperands)

end Sys2Proof.Machine
end

section
/-! PROOF. CREATE VOICE (R62, R63). -/

namespace Sys2Proof.Machine

/-! ### The answers of CREATE VOICE: one for each check that can fail, then the allocation -/

section
variable {f : CommandFrame} {s : State}

theorem answerCreateVoice_badTarget (h : 4 ≤ f.operands[0].toNat) :
    answerCreateVoice f s = .refused .badTarget f.operands[0].toNat := by
  simp [answerCreateVoice, operand, laneOf?_of_ge h]

variable {k : LaneId} (h : f.operands[0].toNat = k.val)
include h

theorem answerCreateVoice_laneOff (hoff : s.lanes[k].settings.on = false) :
    answerCreateVoice f s = .refused .laneOff f.operands[0].toNat := by
  simp_all [answerCreateVoice, operand, laneOf?_of_eq h]

variable (hon : s.lanes[k].settings.on = true)
include hon

theorem answerCreateVoice_badParam {field : Nat} (htemplate : templateOf (dataByte f) (some k) = .error field) :
    answerCreateVoice f s = .refused .badParam field := by
  simp_all [answerCreateVoice, operand, laneOf?_of_eq h]

variable {t : Template} (htemplate : templateOf (dataByte f) (some k) = .ok t)
include htemplate

theorem answerCreateVoice_tagInUse {i : Slot} (hholder : tagHolder s k t.tag = some i) :
    answerCreateVoice f s = .refused .tagInUse i.val := by
  simp_all [answerCreateVoice, operand, laneOf?_of_eq h]

variable (hunused : tagHolder s k t.tag = none)
include hunused

theorem answerCreateVoice_queueFull (hroom : ¬Room s) :
    answerCreateVoice f s = .refused .queueFull s.queue.length := by
  rw [← hasPlace_control_iff] at hroom
  simp_all [answerCreateVoice, operand, laneOf?_of_eq h]

variable (hroom : Room s)
include hroom

theorem answerCreateVoice_poolFull (hpool : obtainSlot s = none) :
    answerCreateVoice f s = .refused .poolFull f.operands[0].toNat := by
  rw [← hasPlace_control_iff] at hroom
  simp_all [answerCreateVoice, operand, laneOf?_of_eq h]

theorem answerCreateVoice_done {i : Slot} {w : State} (hpool : obtainSlot s = some (i, w)) :
    answerCreateVoice f s = .done
      ((w.allocate i .control t).stage (.create { slot := i, generation := w.voices[i].generation + 1 }))
      [byte i.val, byte (w.voices[i].generation + 1).val] := by
  rw [← hasPlace_control_iff] at hroom
  simp_all [answerCreateVoice, operand, laneOf?_of_eq h, Voice.freeSlot]

end

/-! ### The row -/

/-- Settles O16: the row by its answers, in the order of the checks; the holder of the tag is the lowest slot that carries it. -/
theorem createVoiceChecksThenAllocates : Obligations.CreateVoiceChecksThenAllocates := by
  intro s f htakes hlength u holds
  have hl : requiredLength 0x20 = some f.declared.toNat := by rw [hlength]; rfl
  have hlanes : u.lanes = s.lanes := atTaking_lanes s ⟨0x20, f⟩
  have hvoices : u.voices = s.voices := atTaking_voices s ⟨0x20, f⟩
  have hqueue : u.queue = s.queue := atTaking_queue s ⟨0x20, f⟩
  have hplace : Room u ↔ Room s := room_atTaking s ⟨0x20, f⟩
  have refuse {code : RefusalCode} {detail : Nat} (h : answerCreateVoice f u = .refused code detail) :
      exec (.createVoice f) s = .next (refusedState u code.bytes.1 code.bytes.2 0x20 (byte detail)) :=
    congrArg _ (State.runCommand_refused htakes hl h)
  have refuseLane {code : RefusalCode} (h : answerCreateVoice f u = .refused code f.operands[0].toNat) :
      exec (.createVoice f) s = .next (refusedState u code.bytes.1 code.bytes.2 0x20 f.operands[0]) :=
    congrArg _ (State.runCommand_refused_byte htakes hl h)
  simp only [holds]
  rw [← hlanes, ← hvoices, ← hqueue]
  refine ⟨fun hlane => refuseLane (answerCreateVoice_badTarget hlane), fun k hlane =>
    ⟨fun hoff => refuseLane (answerCreateVoice_laneOff hlane hoff), fun hon =>
      ⟨fun e hbad => refuse (answerCreateVoice_badParam hlane hon hbad), fun t hok =>
        ⟨fun i hholds hlower => ?tagInUse, fun hunused => ⟨fun hfull => ?queueFull, ?poolFull, ?done⟩⟩⟩⟩⟩
  case tagInUse =>
    exact refuse (answerCreateVoice_tagInUse hlane hon hok (tagHolder_eq_some_iff.2 ⟨hholds, hlower⟩))
  all_goals have hnone := tagHolder_eq_none_iff.2 hunused
  case queueFull => exact refuse (answerCreateVoice_queueFull hlane hon hok hnone (mt hplace.1 hfull))
  case poolFull =>
    exact fun hroom hpool => refuseLane (answerCreateVoice_poolFull hlane hon hok hnone (hplace.2 hroom) hpool)
  case done =>
    intro hroom i w hpool
    exact congrArg _ (State.runCommand_done htakes hl
      (answerCreateVoice_done hlane hon hok hnone (hplace.2 hroom) hpool))

end Sys2Proof.Machine
end

section
/-! PROOF. READ VOICE, FIND VOICE, LIST VOICES and TEST SETTLED (R70 to R73). -/

namespace Sys2Proof.Machine

/-! ### The voice image (R70) -/

/-- A voice state's code in the upper four bits, a generation in the lower. -/
theorem byte_stateCode_generation (st : VoiceState) (n : Nat) : byte (voiceStateCode st * 16 + n) =
    (match st with | .free => 0 | .pending => 0x10 | .acquiring => 0x20 | .active => 0x30 | .holding => 0x40
                   | .releasing => 0x50) + BitVec.ofNat 8 n := by
  rw [byte, BitVec.ofNat_add]
  cases st <;> rfl

/-- Bits 0 to 4 of a byte: the owner and four flags. -/
theorem byte_voiceFlags (owner : Owner) (fresh frozen clamped fallback : Bool) :
    byte (ownerCode owner + flag fresh 2 + flag frozen 4 + flag clamped 8 + flag fallback 16) =
      (BitVec.ofBool fallback ++ BitVec.ofBool clamped ++ BitVec.ofBool frozen ++ BitVec.ofBool fresh ++
        BitVec.ofBool (owner = .scene) : BitVec 5).setWidth 8 := by
  revert fresh frozen clamped fallback
  cases owner <;> decide

/-- The 32-byte voice image, with two-byte fields, flags and codes written out. -/
theorem voiceImage_eq (v : Voice) : voiceImage v =
    [(match v.state with | .free => 0 | .pending => 0x10 | .acquiring => 0x20 | .active => 0x30 | .holding => 0x40
                         | .releasing => 0x50) + BitVec.ofNat 8 v.generation.val,
     (BitVec.ofBool v.fallbackUsed ++ BitVec.ofBool v.clamped ++ BitVec.ofBool v.frozen.isSome ++
       BitVec.ofBool v.fresh ++ BitVec.ofBool (v.owner = .scene) : BitVec 5).setWidth 8,
     BitVec.ofNat 8 v.template.tag, BitVec.ofNat 8 v.template.lane.val, ruleCode v.template.rule,
     BitVec.ofInt 8 v.template.operand, BitVec.ofInt 8 v.template.fallback, BitVec.ofNat 8 v.template.follow,
     BitVec.ofInt 8 v.template.detune, BitVec.ofNat 8 v.template.lo, BitVec.ofNat 8 v.template.hi,
     BitVec.ofNat 8 v.template.glide] ++ be16 v.template.level ++
    [BitVec.ofNat 8 v.template.pan, groupCode v.template.group, BitVec.ofNat 8 v.template.attack,
     BitVec.ofNat 8 v.template.release, v.frozen.elim 0 (BitVec.ofInt 8), BitVec.ofInt 8 v.nt] ++
    be16 v.t ++ be16 v.o ++ be16 v.delta ++ BitVec.ofNat 8 (v.ratio / 65536) :: be16 v.ratio ++ be16 v.level ++ [0] := by
  have ratio : bytes24 v.ratio = byte (v.ratio / 65536) :: be16 v.ratio := by rw [← bytes16_eq_be16]; rfl
  rw [voiceImage, byte_stateCode_generation, byte_voiceFlags, templateBytes, ratio]
  simp only [bytes16_eq_be16, signedBytes16_eq_be16, List.append_assoc]
  rfl

/-! ### The answer of TEST SETTLED (R73) -/

theorem settledCode_settledAnswer (v : Voice) : settledCode (settledAnswer v) =
    if v.state = .releasing then 3
    else if v.state = .pending ∨ v.state = .acquiring ∨ v.levelTarget = 0 then 2
    else if v.o = v.t then 0 else 1 := by
  simp only [settledAnswer, apply_ite settledCode, ← or_assoc, ite_or]
  rfl

/-! ### The voice that FIND VOICE finds (R71) -/

/-- A voice of lane `k` that is not FREE carries the tag asked for, and tag 0 asks for none. -/
def Found (s : State) (k : LaneId) (tag : Byte) (i : Slot) : Prop := HoldsTag s k tag.toNat i ∧ tag ≠ 0

/-- The slot that FIND VOICE looks for. -/
def findTag (s : State) (k : LaneId) (tag : Byte) : Option Slot := if tag = 0 then none else tagHolder s k tag.toNat

theorem findTag_of_not_found {s : State} {k : LaneId} {tag : Byte} (h : ∀ i, ¬Found s k tag i) : findTag s k tag = none := by
  rw [findTag]
  split
  case isTrue => rfl
  case isFalse hne => exact tagHolder_eq_none_iff.2 fun i hholds => h i ⟨hholds, hne⟩

/-- The slot found is the lowest that carries the tag. -/
theorem findTag_of_found {s : State} {k : LaneId} {tag : Byte} {i : Slot} (h : Found s k tag i)
    (hlower : ∀ j < i, ¬Found s k tag j) : findTag s k tag = some i := by
  obtain ⟨hholds, hne⟩ := h
  rw [findTag, if_neg hne]
  exact tagHolder_eq_some_iff.2 ⟨hholds, fun j hj hlow => hlower j hj ⟨hlow, hne⟩⟩

/-! ### The answers of FIND VOICE -/

section
variable {f : CommandFrame} {s : State}

theorem answerFindVoice_badTarget (h : 4 ≤ f.operands[0].toNat) :
    answerFindVoice f s = .refused .badTarget f.operands[0].toNat := by
  simp [answerFindVoice, operand, laneOf?_of_ge h]

variable {k : LaneId} (h : f.operands[0].toNat = k.val)
include h

theorem answerFindVoice_notFound (hnone : findTag s k f.operands[1] = none) :
    answerFindVoice f s = .refused .notFound f.operands[0].toNat := by
  simp_all [answerFindVoice, operand, laneOf?_of_eq h, findTag]

theorem answerFindVoice_done {i : Slot} (hfound : findTag s k f.operands[1] = some i) :
    answerFindVoice f s =
      .done s [byte i.val, byte s.voices[i].generation.val, byte (voiceStateCode s.voices[i].state)] := by
  simp_all [answerFindVoice, operand, laneOf?_of_eq h, findTag]

end

/-! ### Reads of the voice that a handle names: READ VOICE and TEST SETTLED -/

/-- The answer of a command that reads one voice by its handle. -/
def answerOfVoice (image : Voice → List Byte) (f : CommandFrame) (s : State) : Answer :=
  match checkHandle s (operand f 0) (operand f 1) with
  | .badSlot => .refused .badTarget (operand f 0).toNat
  | .stale => .refused .staleHandle (operand f 0).toNat
  | .current h => .done s (image s.voices[h.slot])

theorem answerReadVoice_eq : answerReadVoice = answerOfVoice voiceImage := rfl

theorem answerTestSettled_eq : answerTestSettled = answerOfVoice fun v => [settledCode (settledAnswer v)] := rfl

section
variable {image : Voice → List Byte} {f : CommandFrame} {s : State}

theorem answerOfVoice_badTarget (h : 16 ≤ f.operands[0].toNat) :
    answerOfVoice image f s = .refused .badTarget f.operands[0].toNat := by
  simp [answerOfVoice, operand, checkHandle_of_ge h]

variable {i : Slot} (h : f.operands[0].toNat = i.val)
include h

theorem answerOfVoice_staleHandle
    (hstale : s.voices[i].state = .free ∨ s.voices[i].generation.val ≠ f.operands[1].toNat) :
    answerOfVoice image f s = .refused .staleHandle f.operands[0].toNat := by
  simp [answerOfVoice, operand, checkHandle_of_stale h hstale]

theorem answerOfVoice_done
    (hcurrent : ¬(s.voices[i].state = .free ∨ s.voices[i].generation.val ≠ f.operands[1].toNat)) :
    answerOfVoice image f s = .done s (image s.voices[i]) := by
  simp [answerOfVoice, operand, checkHandle_of_not_stale h hcurrent]

end

/-- The row of a command that reads one voice by its handle: BAD_TARGET, STALE_HANDLE, or the bytes read. -/
theorem State.runCommand_answerOfVoice {s : State} {code : Byte} {f : CommandFrame} (image : Voice → List Byte)
    (h : Takes s ⟨code, f⟩) (hl : requiredLength code = some f.declared.toNat) :
    (16 ≤ f.operands[0].toNat → s.runCommand ⟨code, f⟩ (answerOfVoice image f) =
      refusedState (atTaking s ⟨code, f⟩) 1 4 code f.operands[0]) ∧
    (∀ i : Slot, f.operands[0].toNat = i.val → s.runCommand ⟨code, f⟩ (answerOfVoice image f) =
      if s.voices[i].state = .free ∨ s.voices[i].generation.val ≠ f.operands[1].toNat then
        refusedState (atTaking s ⟨code, f⟩) 2 5 code f.operands[0]
      else doneState (atTaking s ⟨code, f⟩) (image s.voices[i])) := by
  refine ⟨fun hslot => State.runCommand_refused_byte h hl (answerOfVoice_badTarget hslot), fun i hslot => ?_⟩
  rw [← atTaking_voices s ⟨code, f⟩]
  split
  case isTrue hstale => exact State.runCommand_refused_byte h hl (answerOfVoice_staleHandle hslot hstale)
  case isFalse hcurrent => exact State.runCommand_done h hl (answerOfVoice_done hslot hcurrent)

/-! ### The rows -/

/-- FIND VOICE's row (R71). -/
theorem findVoice_returns_handle (s : State) (f : CommandFrame) (htakes : Takes s ⟨0x25, f⟩) (hlength : f.declared = 0) :
    (4 ≤ f.operands[0].toNat →
      exec (.findVoice f) s = .next (refusedState (atTaking s ⟨0x25, f⟩) 1 4 0x25 f.operands[0])) ∧
    (∀ k : LaneId, f.operands[0].toNat = k.val →
      ((∀ i, ¬Found s k f.operands[1] i) →
        exec (.findVoice f) s = .next (refusedState (atTaking s ⟨0x25, f⟩) 2 7 0x25 f.operands[0])) ∧
      (∀ i, Found s k f.operands[1] i → (∀ j < i, ¬Found s k f.operands[1] j) →
        exec (.findVoice f) s = .next (doneState (atTaking s ⟨0x25, f⟩)
          [byte i.val, byte s.voices[i].generation.val, byte (voiceStateCode s.voices[i].state)]))) := by
  have hl : requiredLength 0x25 = some f.declared.toNat := by rw [hlength]; rfl
  simp only [Found, HoldsTag]
  rw [← atTaking_voices s ⟨0x25, f⟩]
  refine ⟨fun hlane => congrArg _ (State.runCommand_refused_byte htakes hl (answerFindVoice_badTarget hlane)),
    fun k hlane => ⟨fun hnone => ?notFound, fun i hholds hlower => ?found⟩⟩
  case notFound =>
    exact congrArg _ (State.runCommand_refused_byte htakes hl
      (answerFindVoice_notFound hlane (findTag_of_not_found hnone)))
  case found =>
    exact congrArg _ (State.runCommand_done htakes hl (answerFindVoice_done hlane (findTag_of_found hholds hlower)))

/-- LIST VOICES' row (R72). -/
theorem listVoices_returns_states (s : State) (f : CommandFrame) (htakes : Takes s ⟨0x26, f⟩) (hlength : f.declared = 0) :
    exec (.listVoices f) s = .next (doneState (atTaking s ⟨0x26, f⟩)
      (((List.finRange 16).map fun i : Slot => byte (voiceStateCode s.voices[i].state)) ++
        [BitVec.ofNat 8 ((List.finRange 16).countP fun i : Slot => s.voices[i].state = .free)])) := by
  have hl : requiredLength 0x26 = some f.declared.toNat := by rw [hlength]; rfl
  rw [← atTaking_voices s ⟨0x26, f⟩, List.countP_eq_length_filter]
  exact congrArg _ (State.runCommand_done htakes hl rfl)

/-- Settles O20: the answers of the four rows, with their bytes written out. -/
theorem voiceReadsAndLookups : Obligations.VoiceReadsAndLookups := by
  refine ⟨fun s f htakes hlength => ?read, ?lookups⟩
  case read =>
    have hl : requiredLength 0x24 = some f.declared.toNat := by rw [hlength]; rfl
    have row := State.runCommand_answerOfVoice voiceImage htakes hl
    rw [← answerReadVoice_eq] at row
    obtain ⟨badTarget, image⟩ := row
    refine ⟨fun hslot => congrArg _ (badTarget hslot), fun i hslot => congrArg Host.Outcome.next ((image i hslot).trans ?_)⟩
    rw [voiceImage_eq]
    cases s.voices[i].frozen <;> rfl
  intro code
  have hcode (st : VoiceState) : byte (voiceStateCode st) = code st := by cases st <;> rfl
  refine ⟨fun s f htakes hlength => ?find, fun s f htakes hlength => ?list, fun s f htakes hlength => ?settled⟩
  case find =>
    obtain ⟨badTarget, lookup⟩ := findVoice_returns_handle s f htakes hlength
    simp only [hcode, Found, HoldsTag, and_assoc] at lookup
    exact ⟨badTarget, lookup⟩
  case list =>
    have states := listVoices_returns_states s f htakes hlength
    simp only [hcode] at states
    exact states
  case settled =>
    have hl : requiredLength 0x27 = some f.declared.toNat := by rw [hlength]; rfl
    have row := State.runCommand_answerOfVoice (fun v => [settledCode (settledAnswer v)]) htakes hl
    rw [← answerTestSettled_eq] at row
    obtain ⟨badTarget, answer⟩ := row
    refine ⟨fun hslot => congrArg _ (badTarget hslot), fun i hslot => congrArg Host.Outcome.next ((answer i hslot).trans ?_)⟩
    rw [settledCode_settledAnswer]

end Sys2Proof.Machine
end

section
/-! PROOF. What the key map and setlist commands share: scene numbers, flags, lists of bytes filled with zeros, and what the
taking of a command leaves of the key map, the setlist and the notices. -/

namespace Sys2Proof.Machine

@[simp] theorem atTaking_keyMap (s : State) (c : Command) : (atTaking s c).keyMap = s.keyMap := by
  obtain ⟨p, h⟩ := atTaking_frame s c
  rw [h]

@[simp] theorem atTaking_setlist (s : State) (c : Command) : (atTaking s c).setlist = s.setlist := by
  obtain ⟨p, h⟩ := atTaking_frame s c
  rw [h]

@[simp] theorem atTaking_notices (s : State) (c : Command) : (atTaking s c).notices = s.notices := by
  obtain ⟨p, h⟩ := atTaking_frame s c
  rw [h]

theorem sceneOf?_of_ge {b : Byte} (h : 32 ≤ b.toNat) : sceneOf? b = none := dif_neg (by omega)

theorem sceneOf?_of_eq {b : Byte} {n : SceneId} (h : b.toNat = n.val) : sceneOf? b = some n := by
  have hlt : b.toNat < 32 := h ▸ n.isLt
  rw [sceneOf?, dif_pos hlt]
  exact congrArg some (Fin.ext h)

theorem flagOf?_of_gt {b : Byte} (h : 1 < b.toNat) : flagOf? b.toNat = none := by
  rw [flagOf?, if_neg (by omega), if_neg (by omega)]

theorem flagOf?_of_le {b : Byte} (h : b.toNat ≤ 1) : flagOf? b.toNat = some (decide (b = 1)) := by
  have hcode : b = 0 ∨ b = 1 := by bv_omega
  obtain rfl | rfl := hcode <;> rfl

/-- Zeros are appended to a list and the whole is cut to the length. -/
theorem padTo_eq (n : Nat) (l : List Byte) : padTo n l = (l ++ List.replicate n 0).take n := by
  rw [List.take_append, List.take_replicate, min_eq_left (Nat.sub_le n l.length), padTo]

end Sys2Proof.Machine
end

section
/-! PROOF. SET KEY MAP and READ KEY MAP (R105 to R107). -/

namespace Sys2Proof.Machine

/-! ### The key map that is sent (R106) -/

theorem unsigned16_eq_toNat (hi lo : Byte) : unsigned16 hi lo = (hi ++ lo : BitVec 16).toNat := by
  rw [BitVec.toNat_append, ← Nat.shiftLeft_add_eq_or_of_lt lo.isLt, Nat.shiftLeft_eq, unsigned16]

theorem tonicOf?_of_ge {b : Byte} (h : 12 ≤ b.toNat) : tonicOf? b = none := dif_neg (by omega)

theorem tonicOf?_of_eq {b : Byte} {t : Fin 12} (h : b.toNat = t.val) : tonicOf? b = some t := by
  have hlt : b.toNat < 12 := h ▸ t.isLt
  rw [tonicOf?, dif_pos hlt]
  exact congrArg some (Fin.ext h)

section
variable {tonic : Byte} (hi lo ref : Byte)

theorem keyMapOf_of_tonic_ge (h : 12 ≤ tonic.toNat) : keyMapOf tonic hi lo ref = .error 0 := by
  rw [keyMapOf, tonicOf?_of_ge h]

variable {t : Fin 12} (h : tonic.toNat = t.val)
include h

theorem keyMapOf_of_set_ge (hset : 4096 ≤ (hi ++ lo : BitVec 16).toNat) : keyMapOf tonic hi lo ref = .error 1 := by
  rw [← unsigned16_eq_toNat] at hset
  rw [keyMapOf, tonicOf?_of_eq h]
  exact if_pos hset

/-- The key map as stored: the tonic is added to the set, the ref is clamped. -/
theorem keyMapOf_of_set_lt (hset : ¬4096 ≤ (hi ++ lo : BitVec 16).toNat) : keyMapOf tonic hi lo ref =
    .ok { tonic := t, members := (hi ++ lo : BitVec 16).setWidth 12 ||| BitVec.twoPow 12 t.val
          ref := max (-50) (min 50 ref.toInt) } := by
  rw [keyMapOf, tonicOf?_of_eq h, unsigned16_eq_toNat, BitVec.ofNat_toNat]
  exact if_neg hset

end

/-! ### The answers of SET KEY MAP -/

section
variable {f : CommandFrame} (s : State)

theorem answerSetKeyMap_badParam {detail : Nat}
    (h : keyMapOf f.operands[0] f.operands[1] f.operands[2] f.operands[3] = .error detail) :
    answerSetKeyMap f s = .refused .badParam detail := by
  simp [answerSetKeyMap, operand, h]

theorem answerSetKeyMap_stages {k : KeyMap}
    (h : keyMapOf f.operands[0] f.operands[1] f.operands[2] f.operands[3] = .ok k) :
    answerSetKeyMap f s = s.withPlace (.done (s.stage (.keyMap k)) (keyMapBytes k)) := by
  simp [answerSetKeyMap, operand, h]

end

/-! ### The key map image (R107) -/

theorem keyMapBytes_eq (k : KeyMap) :
    keyMapBytes k = BitVec.ofNat 8 k.tonic.val :: be16 k.members.toNat ++ [BitVec.ofInt 8 k.ref] := by
  rw [keyMapBytes, bytes16_eq_be16]
  rfl

/-- The degree list in natural numbers: a degree above the tonic, taken round the octave. -/
theorem degreeList_eq (k : KeyMap) :
    degreeList k = (List.range 12).filter fun i => k.members.getLsbD ((k.tonic.val + i) % 12) := rfl

theorem keyMapImage_eq (k : KeyMap) : keyMapImage k =
    BitVec.ofNat 8 k.tonic.val :: be16 k.members.toNat ++
      [BitVec.ofInt 8 k.ref, BitVec.ofNat 8 (degreeList k).length] ++
      ((degreeList k).map (BitVec.ofNat 8) ++ List.replicate 12 0).take 12 := by
  rw [keyMapImage, keyMapBytes_eq, padTo_eq]
  rfl

/-! ### The two rows -/

/-- Settles O21: SET KEY MAP by what its operands come to, READ KEY MAP by the image's bytes. -/
theorem keyMapCommands : Obligations.KeyMapCommands := by
  refine ⟨fun s f htakes hlength => ?set, fun s f htakes hlength => ?read⟩
  case set =>
    have hl : requiredLength 0x30 = some f.declared.toNat := by rw [hlength]; rfl
    have refuse {detail : Nat} (h : keyMapOf f.operands[0] f.operands[1] f.operands[2] f.operands[3] = .error detail) :=
      State.runCommand_refused htakes hl (answerSetKeyMap_badParam _ h)
    refine ⟨fun htonic => congrArg _ (refuse (keyMapOf_of_tonic_ge _ _ _ htonic)), fun t htonic =>
      congrArg Host.Outcome.next ?_⟩
    split
    case isTrue hset => exact refuse (keyMapOf_of_set_ge _ _ _ htonic hset)
    case isFalse hset =>
      have hbyte : BitVec.ofNat 8 t.val = f.operands[0] := by rw [← htonic, BitVec.ofNat_toNat, BitVec.setWidth_eq]
      have run := State.runCommand_stages htakes hl (answerSetKeyMap_stages _ (keyMapOf_of_set_lt _ _ _ htonic hset))
      rw [keyMapBytes_eq, hbyte] at run
      exact run
  case read =>
    have hl : requiredLength 0x31 = some f.declared.toNat := by rw [hlength]; rfl
    have run := State.runCommand_done (act := answerReadKeyMap) htakes hl rfl
    rw [atTaking_keyMap, keyMapImage_eq, degreeList_eq] at run
    exact congrArg _ run

end Sys2Proof.Machine
end

section
/-! PROOF. LOAD SETLIST and READ SETLIST (R120, R121). -/

namespace Sys2Proof.Machine

/-! ### The entries of the data phase (R120) -/

section
variable {f : CommandFrame}

/-- The lowest entry above 31 is the one that is refused. -/
theorem setlistEntriesOf_error {n i j : Nat} (hfrom : i ≤ j) (hto : j < i + n) (hbad : 31 < (dataByte f j).toNat)
    (hlower : ∀ m, i ≤ m → m < j → (dataByte f m).toNat ≤ 31) : setlistEntriesOf f n i = .error (2 + j) := by
  induction n generalizing i with
  | zero => omega
  | succ n ih =>
    rw [setlistEntriesOf]
    obtain rfl | hlt := hfrom.eq_or_lt
    · rw [sceneOf?_of_ge hbad]
    · have hscene : (dataByte f i).toNat < 32 := Nat.lt_succ_of_le (hlower i le_rfl hlt)
      rw [sceneOf?_of_eq (n := ⟨_, hscene⟩) rfl, ih hlt (by omega) fun m hm => hlower m (by omega)]
      rfl

theorem setlistEntriesOf_ok {entries : List SceneId} {i : Nat}
    (h : ∀ (m : Nat) (hm : m < entries.length), (dataByte f (i + m)).toNat = entries[m].val) :
    setlistEntriesOf f entries.length i = .ok entries := by
  induction entries generalizing i with
  | nil => rfl
  | cons e entries ih =>
    have hrest : setlistEntriesOf f entries.length (i + 1) = .ok entries := ih fun m hm => by
      rw [Nat.add_assoc, Nat.add_comm 1 m]
      exact h (m + 1) (Nat.succ_lt_succ hm)
    rw [List.length_cons, setlistEntriesOf, sceneOf?_of_eq (b := dataByte f i) (h 0 (Nat.succ_pos _)), hrest]
    rfl

/-- Scenes whose numbers are the first bytes of the data phase, read at each place. -/
theorem dataByte_toNat_of_map_eq {entries : List SceneId} {n : Nat} (hlength : entries.length = n)
    (hmap : entries.map (fun e : SceneId => e.val) = (f.data.take n).map BitVec.toNat) (m : Nat)
    (hm : m < entries.length) : (dataByte f m).toNat = entries[m].val := by
  have hget := congrArg (·[m]?) hmap
  simp only [List.getElem?_map, List.getElem?_take_of_lt (hlength ▸ hm), List.getElem?_eq_getElem hm,
    Option.map_some] at hget
  obtain ⟨b, hb, hval⟩ := Option.map_eq_some_iff.1 hget.symm
  rw [dataByte, List.getD_eq_getElem?_getD, hb, Option.getD_some, hval]

/-! ### The setlist that is sent (R120) -/

theorem setlistOf_of_length_gt (h : 64 < f.operands[0].toNat) : setlistOf f = .error 0 := if_pos h

variable (hlength : f.operands[0].toNat ≤ 64)
include hlength

theorem setlistOf_of_endMode_gt (h : 1 < f.operands[1].toNat) : setlistOf f = .error 1 := by
  simp [setlistOf, operand, hlength.not_gt, flagOf?_of_gt h]

theorem setlistOf_of_endMode_le (h : f.operands[1].toNat ≤ 1) : setlistOf f =
    (setlistEntriesOf f f.operands[0].toNat 0).map fun entries =>
      { entries := entries, position := 0, wrap := f.operands[1] = 1 } := by
  simp [setlistOf, operand, hlength.not_gt, flagOf?_of_le h]

end

/-! ### The rows -/

theorem answerLoadSetlist_badParam {f : CommandFrame} (s : State) {detail : Nat} (h : setlistOf f = .error detail) :
    answerLoadSetlist f s = .refused .badParam detail := by
  rw [answerLoadSetlist, h]

theorem answerLoadSetlist_done {f : CommandFrame} (s : State) {l : Setlist} (h : setlistOf f = .ok l) :
    answerLoadSetlist f s = .done { s with setlist := l } [] := by
  rw [answerLoadSetlist, h]

/-- LOAD SETLIST's row, by what its operands and data phase come to. -/
theorem loadSetlist_replaces (s : State) (f : CommandFrame) (htakes : Takes s ⟨0x36, f⟩) (hlength : f.declared = 64) :
    (∀ detail, setlistOf f = .error detail →
      exec (.loadSetlist f) s = .next (refusedState (atTaking s ⟨0x36, f⟩) 1 3 0x36 (byte detail))) ∧
    (∀ l, setlistOf f = .ok l →
      exec (.loadSetlist f) s = .next (doneState { atTaking s ⟨0x36, f⟩ with setlist := l } [])) := by
  have hl : requiredLength 0x36 = some f.declared.toNat := by rw [hlength]; rfl
  exact ⟨fun detail h => congrArg _ (State.runCommand_refused htakes hl (answerLoadSetlist_badParam _ h)),
    fun l h => congrArg _ (State.runCommand_done htakes hl (answerLoadSetlist_done _ h))⟩

theorem setlistImage_eq (l : Setlist) : setlistImage l =
    [BitVec.ofNat 8 l.entries.length, if l.wrap then 1 else 0, BitVec.ofNat 8 l.position] ++
      (l.entries.map (fun e : SceneId => BitVec.ofNat 8 e.val) ++ List.replicate 64 0).take 64 := by
  rw [setlistImage, padTo_eq]
  rfl

/-- READ SETLIST's row (R121). -/
theorem readSetlist_returns_image (s : State) (f : CommandFrame) (htakes : Takes s ⟨0x37, f⟩) (hlength : f.declared = 0) :
    exec (.readSetlist f) s = .next (doneState (atTaking s ⟨0x37, f⟩) (setlistImage s.setlist)) := by
  have hl : requiredLength 0x37 = some f.declared.toNat := by rw [hlength]; rfl
  have run := State.runCommand_done (act := answerReadSetlist) htakes hl rfl
  rw [atTaking_setlist] at run
  exact congrArg _ run

end Sys2Proof.Machine
end

section
/-! PROOF. ADVANCE SETLIST (R122, R123): the decision table of a step, then one row for each thing a step can come to. -/

namespace Sys2Proof.Machine

/-! ### The decision table (R122) -/

theorem decideStep_of_empty {l : Setlist} (h : l.entries.length = 0) (ask : StepAsk) : decideStep l ask = .empty := if_pos h

section
variable {l : Setlist} (h : 0 < l.entries.length)
include h

theorem decideStep_next : decideStep l .next =
    if l.position + 1 < l.entries.length then .move (l.position + 1)
    else if l.wrap then .move 0 else .endReached := if_neg h.ne'

theorem decideStep_prev : decideStep l .prev =
    if 0 < l.position then .move (l.position - 1)
    else if l.wrap then .move (l.entries.length - 1) else .endReached := if_neg h.ne'

theorem decideStep_goto (p : Nat) : decideStep l (.goto p) = if p < l.entries.length then .move p else .beyond :=
  if_neg h.ne'

end

/-- A step by one place: inside the list it moves, from the list's end it goes round with WRAP and comes to the end with
STOP. -/
theorem decideStep_byOne {l : Setlist} {ask : StepAsk} {inside : Prop} [Decidable inside] {p q : Nat}
    (table : decideStep l ask = if inside then .move p else if l.wrap then .move q else .endReached) :
    (inside → decideStep l ask = .move p) ∧ (¬inside → l.wrap = true → decideStep l ask = .move q) ∧
      (¬inside → l.wrap = false → decideStep l ask = .endReached) := by
  refine ⟨fun hin => ?moves, fun hout hwrap => ?goesRound, fun hout hstop => ?ends⟩
  case moves => rw [table, if_pos hin]
  case goesRound => rw [table, if_neg hout, if_pos hwrap]
  case ends => rw [table, if_neg hout, if_neg (ne_true_of_eq_false hstop)]

/-! ### Step codes (R191) -/

theorem stepAskOf?_of_bad {code : Byte} (p : Byte) (h : code.toNat = 0 ∨ 3 < code.toNat) : stepAskOf? code p = none := by
  rw [stepAskOf?, if_neg (by bv_omega), if_neg (by bv_omega), if_neg (by bv_omega)]

theorem stepAskOf?_one {code : Byte} (p : Byte) (h : code.toNat = 1) : stepAskOf? code p = some .next := by
  obtain rfl : code = 1 := BitVec.eq_of_toNat_eq h
  rfl

theorem stepAskOf?_two {code : Byte} (p : Byte) (h : code.toNat = 2) : stepAskOf? code p = some .prev := by
  obtain rfl : code = 2 := BitVec.eq_of_toNat_eq h
  rfl

theorem stepAskOf?_three {code : Byte} (p : Byte) (h : code.toNat = 3) : stepAskOf? code p = some (.goto p.toNat) := by
  obtain rfl : code = 3 := BitVec.eq_of_toNat_eq h
  rfl

theorem stepAskOf?_isSome {code : Byte} (p : Byte) (hlow : 1 ≤ code.toNat) (hhigh : code.toNat ≤ 3) :
    ∃ ask, stepAskOf? code p = some ask := by
  have hcode : code.toNat = 1 ∨ code.toNat = 2 ∨ code.toNat = 3 := by omega
  obtain h | h | h := hcode
  · exact ⟨_, stepAskOf?_one p h⟩
  · exact ⟨_, stepAskOf?_two p h⟩
  · exact ⟨_, stepAskOf?_three p h⟩

/-! ### The answers -/

section
variable {f : CommandFrame} {s : State}

theorem answerAdvanceSetlist_badStep (h : stepAskOf? f.operands[0] f.operands[1] = none) :
    answerAdvanceSetlist f s = .refused .badParam 0 := by
  simp [answerAdvanceSetlist, operand, h]

variable {ask : StepAsk} (h : stepAskOf? f.operands[0] f.operands[1] = some ask)
include h

theorem answerAdvanceSetlist_empty (hdecide : decideStep s.setlist ask = .empty) :
    answerAdvanceSetlist f s = .refused .notFound 0 := by
  simp [answerAdvanceSetlist, operand, h, hdecide]

theorem answerAdvanceSetlist_beyond (hdecide : decideStep s.setlist ask = .beyond) :
    answerAdvanceSetlist f s = .refused .badParam f.operands[1].toNat := by
  simp [answerAdvanceSetlist, operand, h, hdecide]

theorem answerAdvanceSetlist_move {p : Nat} (hdecide : decideStep s.setlist ask = .move p) :
    answerAdvanceSetlist f s = s.withPlace (.done (s.moveTo p) [byte p, 1, byte (sceneAt s.setlist p).val]) := by
  simp [answerAdvanceSetlist, operand, h, hdecide]

theorem answerAdvanceSetlist_ends (hdecide : decideStep s.setlist ask = .endReached) :
    answerAdvanceSetlist f s =
      .done (s.raise .setlistEnd s.setlist.position) [byte s.setlist.position, 0, 0xFF] := by
  simp [answerAdvanceSetlist, operand, h, hdecide]

end

/-! ### The row -/

section
variable {s : State} {f : CommandFrame} (htakes : Takes s ⟨0x38, f⟩) (hl : requiredLength 0x38 = some f.declared.toNat)
include htakes hl

theorem advanceSetlist_badStep (h : stepAskOf? f.operands[0] f.operands[1] = none) :
    exec (.advanceSetlist f) s = .next (refusedState (atTaking s ⟨0x38, f⟩) 1 3 0x38 0) :=
  congrArg _ (State.runCommand_refused htakes hl (answerAdvanceSetlist_badStep h))

variable {ask : StepAsk} (h : stepAskOf? f.operands[0] f.operands[1] = some ask)
include h

theorem advanceSetlist_empty (hdecide : decideStep s.setlist ask = .empty) :
    exec (.advanceSetlist f) s = .next (refusedState (atTaking s ⟨0x38, f⟩) 2 7 0x38 0) := by
  rw [← atTaking_setlist s ⟨0x38, f⟩] at hdecide
  exact congrArg _ (State.runCommand_refused htakes hl (answerAdvanceSetlist_empty h hdecide))

theorem advanceSetlist_beyond (hdecide : decideStep s.setlist ask = .beyond) :
    exec (.advanceSetlist f) s = .next (refusedState (atTaking s ⟨0x38, f⟩) 1 3 0x38 f.operands[1]) := by
  rw [← atTaking_setlist s ⟨0x38, f⟩] at hdecide
  exact congrArg _ (State.runCommand_refused_byte htakes hl (answerAdvanceSetlist_beyond h hdecide))

/-- A move and its take are one act: the take finds a place, or the position stays with the refusal. -/
theorem advanceSetlist_moves {p : Nat} (hdecide : decideStep s.setlist ask = .move p) {n : SceneId}
    (hscene : s.setlist.entries[p]? = some n) :
    exec (.advanceSetlist f) s = .next
      (if Room s then doneState { atTaking s ⟨0x38, f⟩ with
          queue := s.queue ++ [.take n], setlist := { s.setlist with position := p } }
        [BitVec.ofNat 8 p, 1, BitVec.ofNat 8 n.val]
      else refusedState (atTaking s ⟨0x38, f⟩) 3 11 0x38 (BitVec.ofNat 8 s.queue.length)) := by
  have hat : sceneAt s.setlist p = n := by rw [sceneAt, List.getD_eq_getElem?_getD, hscene, Option.getD_some]
  have hplace := room_atTaking s ⟨0x38, f⟩
  rw [← atTaking_setlist s ⟨0x38, f⟩] at hdecide
  have answer := answerAdvanceSetlist_move h hdecide
  refine congrArg Host.Outcome.next ?_
  split
  case isTrue hroom =>
    have run := State.runCommand_done htakes hl (answer.trans (State.withPlace_of_room _ (hplace.2 hroom)))
    simp only [State.moveTo, State.stage, atTaking_setlist, atTaking_queue, hat] at run
    exact run
  case isFalse hroom =>
    have run := State.runCommand_refused htakes hl (answer.trans (State.withPlace_of_not_room _ (mt hplace.1 hroom)))
    rw [atTaking_queue] at run
    exact run

theorem advanceSetlist_ends (hdecide : decideStep s.setlist ask = .endReached) :
    exec (.advanceSetlist f) s = .next (doneState
      { atTaking s ⟨0x38, f⟩ with notices := s.notices.set 13 (raiseNotice s.notices[13] s.setlist.position) }
      [BitVec.ofNat 8 s.setlist.position, 0, 0xFF]) := by
  rw [← atTaking_notices s ⟨0x38, f⟩]
  rw [← atTaking_setlist s ⟨0x38, f⟩] at hdecide ⊢
  exact congrArg _ (State.runCommand_done htakes hl (answerAdvanceSetlist_ends h hdecide))

end

/-! ### The three rows of the setlist -/

/-- Settles O25: LOAD SETLIST by the first check that fails, READ SETLIST by the image's bytes, ADVANCE SETLIST by the
decision table of its step. -/
theorem setlistCommands : Obligations.SetlistCommands := by
  refine ⟨⟨fun s f htakes hlength => ?load, fun s f htakes hlength => ?read⟩, fun s f htakes hlength _ => ?advance⟩
  case load =>
    obtain ⟨refuse, store⟩ := loadSetlist_replaces s f htakes hlength
    refine ⟨fun hn => refuse 0 (setlistOf_of_length_gt hn), fun hn hmode => refuse 1 (setlistOf_of_endMode_gt hn hmode),
      fun hn hmode i hi hbad hlower => refuse _ ?_, fun hn hmode entries hentries hmap => store _ ?_⟩
    · have herror := setlistEntriesOf_error (n := f.operands[0].toNat) (Nat.zero_le i.val) (by omega) hbad
        fun m _ hm => hlower ⟨m, hm.trans i.isLt⟩ hm
      rw [setlistOf_of_endMode_le hn hmode, herror]
      rfl
    · have hok : setlistEntriesOf f entries.length 0 = .ok entries := setlistEntriesOf_ok fun m hm => by
        rw [Nat.zero_add]
        exact dataByte_toNat_of_map_eq hentries hmap m hm
      rw [setlistOf_of_endMode_le hn hmode, ← hentries, hok]
      rfl
  case read =>
    rw [readSetlist_returns_image s f htakes hlength, setlistImage_eq]
  case advance =>
    have hl : requiredLength 0x38 = some f.declared.toNat := by rw [hlength]; rfl
    refine ⟨fun hcode => advanceSetlist_badStep htakes hl (stepAskOf?_of_bad _ hcode), fun hlow hhigh hempty => ?_,
      fun hlen => ⟨fun hcode => ?next, fun hcode => ?prev, fun hcode => ?goto⟩⟩
    · obtain ⟨ask, hask⟩ := stepAskOf?_isSome f.operands[1] hlow hhigh
      exact advanceSetlist_empty htakes hl hask (decideStep_of_empty hempty ask)
    case next =>
      have hask := stepAskOf?_one f.operands[1] hcode
      obtain ⟨move, goRound, stop⟩ := decideStep_byOne (decideStep_next hlen)
      exact ⟨fun hnext _ => advanceSetlist_moves htakes hl hask (move hnext),
        fun hlast hwrap _ => advanceSetlist_moves htakes hl hask (goRound hlast.not_lt hwrap),
        fun hlast hstop => advanceSetlist_ends htakes hl hask (stop hlast.not_lt hstop)⟩
    case prev =>
      have hask := stepAskOf?_two f.operands[1] hcode
      obtain ⟨move, goRound, stop⟩ := decideStep_byOne (decideStep_prev hlen)
      exact ⟨fun hprev _ => advanceSetlist_moves htakes hl hask (move hprev),
        fun hfirst hwrap _ => advanceSetlist_moves htakes hl hask (goRound hfirst.not_gt hwrap),
        fun hfirst hstop => advanceSetlist_ends htakes hl hask (stop hfirst.not_gt hstop)⟩
    case goto =>
      have hask := stepAskOf?_three f.operands[1] hcode
      have table := decideStep_goto hlen f.operands[1].toNat
      exact ⟨fun hin _ => advanceSetlist_moves htakes hl hask (table.trans (if_pos hin)),
        fun hout => advanceSetlist_beyond htakes hl hask (table.trans (if_neg hout.not_gt))⟩

end Sys2Proof.Machine
end

section
/-! PROOF. The armed cue's commands (R127, R128, R129, R132): ARM CUE's checks in their order as one equation, and O26. -/

namespace Sys2Proof.Machine

@[simp] theorem atTaking_scenes (s : State) (c : Command) : (atTaking s c).scenes = s.scenes := by
  obtain ⟨p, h⟩ := atTaking_frame s c
  rw [h]

@[simp] theorem atTaking_link (s : State) (c : Command) : (atTaking s c).link = s.link := by
  obtain ⟨p, h⟩ := atTaking_frame s c
  rw [h]

/-! ### The data phase of ARM CUE (R127, R191) -/

theorem expiryActionOf?_of_gt {b : Byte} (h : 1 < b.toNat) : expiryActionOf? b = none := by
  rw [expiryActionOf?, if_neg (by bv_omega), if_neg (by bv_omega)]

theorem expiryActionOf?_of_le {b : Byte} (h : ¬1 < b.toNat) :
    expiryActionOf? b = some (if b = 0 then .take else .drop) := by
  have hcode : b = 0 ∨ b = 1 := by bv_omega
  obtain rfl | rfl := hcode <;> rfl

/-- The match set of a data phase: the low twelve bits of its field. -/
def cueSet (f : CommandFrame) : PitchSet := (dat f 2 ++ dat f 3 : BitVec 16).setWidth 12

/-- The timeout of a data phase, clamped (check 5 of R127). -/
def cueTimeout (f : CommandFrame) : Nat := min 4095 (dat f 4 ++ dat f 5 : BitVec 16).toNat

/-- The record as an ARM CUE for scene `n` and lane `k` sets it (R128). -/
def sentCue (f : CommandFrame) (n : SceneId) (k : LaneId) : ArmedCue :=
  { armed := true, scene := n, lane := k, matchSet := cueSet f, timeout := cueTimeout f
    action := if dat f 6 = 0 then .take else .drop, remaining := cueTimeout f }

theorem cueSet_eq (f : CommandFrame) : BitVec.ofNat 12 (unsigned16 (dataByte f 2) (dataByte f 3)) = cueSet f := by
  rw [unsigned16_eq_toNat, BitVec.ofNat_toNat, cueSet, dataByte, dataByte]

theorem cueTimeout_eq (f : CommandFrame) : min 4095 (unsigned16 (dataByte f 4) (dataByte f 5)) = cueTimeout f := by
  rw [unsigned16_eq_toNat, cueTimeout, dataByte, dataByte]

/-! ### The answers of ARM CUE -/

section
variable {f : CommandFrame} (s : State)

theorem answerArmCue_badScene (h : 32 ≤ (dat f 0).toNat) : answerArmCue f s = .refused .badTarget (dat f 0).toNat := by
  simp only [answerArmCue, dataByte, sceneOf?_of_ge h]

variable {n : SceneId} (hscene : (dat f 0).toNat = n.val)
include hscene

theorem answerArmCue_badLane (h : 4 ≤ (dat f 1).toNat) : answerArmCue f s = .refused .badTarget (dat f 1).toNat := by
  simp only [answerArmCue, dataByte, sceneOf?_of_eq hscene, laneOf?_of_ge h]

/-- The checks that follow the first two, in the order of R127, then the record of R128. -/
theorem answerArmCue_eq {k : LaneId} (hlane : (dat f 1).toNat = k.val) : answerArmCue f s =
    if cueSet f = 0 then .refused .badParam 2
    else if 1 < (dat f 6).toNat then .refused .badParam 4
    else if s.cue.armed = true then .refused .cueArmed s.cue.scene.val
    else if s.scenes[n] = none then .refused .sceneEmpty (dat f 0).toNat
    else if s.lanes[k].settings.on = false then .refused .laneOff (dat f 1).toNat
    else if 16 ≤ s.queue.length then .refused .queueFull 16
    else .done { s with cue := sentCue f n k } (be16 (cueTimeout f)) := by
  simp only [answerArmCue, cueSet_eq, cueTimeout_eq, bytes16_eq_be16]
  simp only [dataByte, sceneOf?_of_eq hscene, laneOf?_of_eq hlane, hscene, hlane, Option.isNone_iff_eq_none,
    Bool.not_eq_true]
  by_cases haction : 1 < (dat f 6).toNat
  · simp only [expiryActionOf?_of_gt haction, if_pos haction]
  · simp only [expiryActionOf?_of_le haction, if_neg haction, sentCue]

end

/-! ### The three rows -/

/-- ARM CUE's row for a scene and a lane that are there: the first check that fails, or the record. -/
theorem armCue_checks (s : State) (f : CommandFrame) (htakes : Takes s ⟨0x40, f⟩)
    (hl : requiredLength 0x40 = some f.declared.toNat) {n : SceneId} (hscene : (dat f 0).toNat = n.val) {k : LaneId}
    (hlane : (dat f 1).toNat = k.val) :
    let u := atTaking s ⟨0x40, f⟩
    exec (.armCue f) s = .next
      (if cueSet f = 0 then refusedState u 1 3 0x40 2
      else if 1 < (dat f 6).toNat then refusedState u 1 3 0x40 4
      else if s.cue.armed = true then refusedState u 3 12 0x40 (BitVec.ofNat 8 s.cue.scene.val)
      else if s.scenes[n] = none then refusedState u 2 9 0x40 (dat f 0)
      else if s.lanes[k].settings.on = false then refusedState u 4 13 0x40 (dat f 1)
      else if 16 ≤ s.queue.length then refusedState u 3 11 0x40 16
      else doneState { u with cue := sentCue f n k } (be16 (cueTimeout f))) := by
  refine congrArg Host.Outcome.next ?_
  have answer := answerArmCue_eq (atTaking s ⟨0x40, f⟩) hscene hlane
  rw [← atTaking_cue s ⟨0x40, f⟩, ← atTaking_scenes s ⟨0x40, f⟩, ← atTaking_lanes s ⟨0x40, f⟩, ← atTaking_queue s ⟨0x40, f⟩]
  split_ifs at answer ⊢ with hset haction harmed hempty hoff hfull
  · exact State.runCommand_refused htakes hl answer
  · exact State.runCommand_refused htakes hl answer
  · exact State.runCommand_refused htakes hl answer
  · exact State.runCommand_refused_byte htakes hl answer
  · exact State.runCommand_refused_byte htakes hl answer
  · exact State.runCommand_refused htakes hl answer
  · exact State.runCommand_done htakes hl answer

/-- DISARM CUE's row (R129): an ARMED record becomes IDLE, an IDLE one is left. -/
theorem disarmCue_idles (s : State) (f : CommandFrame) (htakes : Takes s ⟨0x41, f⟩)
    (hl : requiredLength 0x41 = some f.declared.toNat) :
    exec (.disarmCue f) s = .next
      (if s.cue.armed = true then doneState (atTaking s ⟨0x41, f⟩).idleCue [1]
      else doneState (atTaking s ⟨0x41, f⟩) [0]) := by
  refine congrArg Host.Outcome.next ?_
  rw [← atTaking_cue s ⟨0x41, f⟩]
  split
  case isTrue harmed => exact State.runCommand_done htakes hl (if_pos harmed)
  case isFalse hidle => exact State.runCommand_done htakes hl (if_neg hidle)

/-- FIRE CUE's row (R132): an ARMED record fires, an IDLE one is NOT_FOUND. -/
theorem fireCue_fires (s : State) (f : CommandFrame) (htakes : Takes s ⟨0x42, f⟩)
    (hl : requiredLength 0x42 = some f.declared.toNat) :
    exec (.fireCue f) s = .next
      (if s.cue.armed = true then doneState (atTaking s ⟨0x42, f⟩).fireArmed [BitVec.ofNat 8 s.cue.scene.val]
      else refusedState (atTaking s ⟨0x42, f⟩) 2 7 0x42 0) := by
  refine congrArg Host.Outcome.next ?_
  rw [← atTaking_cue s ⟨0x42, f⟩]
  split
  case isTrue harmed => exact State.runCommand_done htakes hl (if_pos harmed)
  case isFalse hidle => exact State.runCommand_refused (act := answerFireCue) htakes hl (if_neg hidle)

/-- Settles O26: each row by its answers, with the record's idling and firing written out. -/
theorem armedCueCommands : Obligations.ArmedCueCommands := by
  refine ⟨fun s f htakes hlength => ?arm, fun s f htakes hlength => ?disarm, fun s f htakes hlength => ?fire⟩
  case arm =>
    have hl : requiredLength 0x40 = some f.declared.toNat := by rw [hlength]; rfl
    exact ⟨fun h => congrArg _ (State.runCommand_refused_byte htakes hl (answerArmCue_badScene _ h)),
      fun n hscene =>
        ⟨fun h => congrArg _ (State.runCommand_refused_byte htakes hl (answerArmCue_badLane _ hscene h)),
          fun k hlane => armCue_checks s f htakes hl hscene hlane⟩⟩
  case disarm =>
    have hl : requiredLength 0x41 = some f.declared.toNat := by rw [hlength]; rfl
    have row := disarmCue_idles s f htakes hl
    rw [State.idleCue, atTaking_cue, atTaking_link] at row
    exact row
  case fire =>
    have hl : requiredLength 0x42 = some f.declared.toNat := by rw [hlength]; rfl
    have row := fireCue_fires s f htakes hl
    rw [State.fireArmed_eq, atTaking_queue, atTaking_cue, atTaking_link, atTaking_notices] at row
    exact row

end Sys2Proof.Machine
end

section
/-! PROOF. The cue link's control-port commands (R150, R151, R152): the chord set's classes and image, and O27. -/

namespace Sys2Proof.Machine

@[simp] theorem atTaking_chord (s : State) (c : Command) : (atTaking s c).chord = s.chord := by
  obtain ⟨p, h⟩ := atTaking_frame s c
  rw [h]

/-! ### The chord set image (R146, R151) -/

/-- The fold of `chordPitchSet`, from any set of classes. -/
theorem getLsbD_foldl_classes (entries : List ChordEntry) (set : PitchSet) (k : Fin 12) :
    (entries.foldl (fun set e => set ||| BitVec.twoPow 12 (e.note % 12)) set).getLsbD k.val = true ↔
      set.getLsbD k.val = true ∨ ∃ e ∈ entries, e.note % 12 = k.val := by
  induction entries generalizing set with
  | nil => simp
  | cons e entries ih =>
    rw [List.foldl_cons, ih]
    simp [or_assoc, eq_comm (a := k.val)]

theorem getLsbD_chordPitchSet (c : ChordSet) (k : Fin 12) :
    (chordPitchSet c).getLsbD k.val = true ↔ ∃ e ∈ c.entries, e.note % 12 = k.val := by
  rw [chordPitchSet, getLsbD_foldl_classes]
  simp

/-- The 27 bytes of the chord set's image, with its list of entries filled with zeros. -/
theorem chordImage_eq (c : ChordSet) (l : CueLink) : chordImage c l =
    [BitVec.ofNat 8 c.entries.length] ++
      (c.entries.flatMap (fun e : ChordEntry => [BitVec.ofNat 8 e.note, if e.down then 1 else 0]) ++
        List.replicate 16 0).take 16 ++
      [if c.latch then 1 else 0] ++ be16 (chordPitchSet c).toNat ++
      [BitVec.ofNat 8 l.fifo.length, if l.hold then 1 else 0] ++ faultBytes l.faults := by
  rw [chordImage, padTo_eq, bytes16_eq_be16]
  rfl

/-! ### The answers of SET CUE LINK (R152) -/

section
variable {f : CommandFrame} (s : State)

theorem answerSetCueLink_badLatch (h : 1 < f.operands[0].toNat) : answerSetCueLink f s = .refused .badParam 0 := by
  simp [answerSetCueLink, operand, flagOf?_of_gt h]

variable (hlatch : f.operands[0].toNat ≤ 1)
include hlatch

theorem answerSetCueLink_badZero (h : 1 < f.operands[1].toNat) : answerSetCueLink f s = .refused .badParam 1 := by
  simp [answerSetCueLink, operand, flagOf?_of_le hlatch, flagOf?_of_gt h]

theorem answerSetCueLink_done (hzero : f.operands[1].toNat ≤ 1) : answerSetCueLink f s = .done
    { s with
      chord := if f.operands[0] = 1 then { s.chord with latch := true }
        else { entries := s.chord.entries.filter (·.down), latch := false }
      link := if f.operands[1] = 1 then { s.link with faults := .zero } else s.link }
    (faultBytes s.link.faults) := by
  have hlink : { s.link with faults := if f.operands[1] = 1 then .zero else s.link.faults } =
      if f.operands[1] = 1 then { s.link with faults := .zero } else s.link := by
    split <;> rfl
  simp only [answerSetCueLink, operand, Fin.getElem_fin, Fin.isValue, Fin.val_zero, Fin.val_one, flagOf?_of_le hlatch,
    flagOf?_of_le hzero, setLatch, decide_eq_true_eq, hlink]

end

/-! ### The three rows -/

/-- READ CHORD SET's row. -/
theorem readChordSet_returns_image (s : State) (f : CommandFrame) (htakes : Takes s ⟨0x50, f⟩) (hlength : f.declared = 0) :
    exec (.readChordSet f) s = .next (doneState (atTaking s ⟨0x50, f⟩) (chordImage s.chord s.link)) := by
  have hl : requiredLength 0x50 = some f.declared.toNat := by rw [hlength]; rfl
  have run := State.runCommand_done (act := answerReadChordSet) htakes hl rfl
  rw [atTaking_chord, atTaking_link] at run
  exact congrArg _ run

/-- CLEAR CHORD SET's row. -/
theorem clearChordSet_empties (s : State) (f : CommandFrame) (htakes : Takes s ⟨0x51, f⟩) (hlength : f.declared = 0) :
    exec (.clearChordSet f) s = .next (doneState { atTaking s ⟨0x51, f⟩ with chord := clearChord s.chord } []) := by
  have hl : requiredLength 0x51 = some f.declared.toNat := by rw [hlength]; rfl
  have run := State.runCommand_done (act := answerClearChordSet) htakes hl rfl
  rw [atTaking_chord] at run
  exact congrArg _ run

/-- SET CUE LINK's row: its two operand checks in order, then latch mode and the counts. -/
theorem setCueLink_sets (s : State) (f : CommandFrame) (htakes : Takes s ⟨0x52, f⟩) (hlength : f.declared = 0) :
    let u := atTaking s ⟨0x52, f⟩
    exec (.setCueLink f) s = .next
      (if 1 < f.operands[0].toNat then refusedState u 1 3 0x52 0
      else if 1 < f.operands[1].toNat then refusedState u 1 3 0x52 1
      else doneState
        { u with
          chord := if f.operands[0] = 1 then { s.chord with latch := true }
            else { entries := s.chord.entries.filter (·.down), latch := false }
          link := if f.operands[1] = 1 then { s.link with faults := .zero } else s.link }
        (faultBytes s.link.faults)) := by
  have hl : requiredLength 0x52 = some f.declared.toNat := by rw [hlength]; rfl
  refine congrArg Host.Outcome.next ?_
  rw [← atTaking_chord s ⟨0x52, f⟩, ← atTaking_link s ⟨0x52, f⟩]
  by_cases hlatch : 1 < f.operands[0].toNat
  · rw [if_pos hlatch]
    exact State.runCommand_refused htakes hl (answerSetCueLink_badLatch _ hlatch)
  by_cases hzero : 1 < f.operands[1].toNat
  · rw [if_neg hlatch, if_pos hzero]
    exact State.runCommand_refused htakes hl (answerSetCueLink_badZero _ (not_lt.1 hlatch) hzero)
  · rw [if_neg hlatch, if_neg hzero]
    exact State.runCommand_done htakes hl (answerSetCueLink_done _ (not_lt.1 hlatch) (not_lt.1 hzero))

/-- Settles O27: the classes of READ CHORD SET are `chordPitchSet`, and each row is its answer. -/
theorem cueLinkCommands : Obligations.CueLinkCommands := by
  refine ⟨fun s f htakes hlength => ⟨chordPitchSet s.chord, getLsbD_chordPitchSet s.chord, ?_⟩,
    clearChordSet_empties, setCueLink_sets⟩
  rw [readChordSet_returns_image s f htakes hlength, chordImage_eq]
  rfl

end Sys2Proof.Machine
end

section
/-! PROOF. CUE_LINK_MESSAGE (R137, R139, R140, R142, R145): what samples that complete a byte bring, the content of a message by its
start byte, and O49. -/

namespace Sys2Proof.Machine

/-! ### Samples that complete a byte (R137, R138) -/

/-- Start-bit samples that read high are noise. -/
theorem runLine_noise (noise : Nat) : runLine .idle (List.replicate noise true) = (.idle, []) := by
  induction noise with
  | zero => rfl
  | succ noise ih => simp [List.replicate_succ, runLine, sampleLine, ih]

/-- A start bit whose middle reads low begins a byte. -/
theorem runLine_start (samples : List Bool) : runLine .idle (false :: samples) = runLine (.receiving []) samples := rfl

theorem length_lineBits (b : Byte) : (lineBits b).length = 8 := rfl

/-- The stop bit after eight data bits. -/
theorem runLine_stop (b : Byte) (stop : Bool) : runLine (.receiving (lineBits b)) [stop] =
    if stop then (.idle, [.byte b]) else (.waitHigh, [.fault]) := by
  cases stop <;> simp [runLine, sampleLine, Config.byteBits, byteOfBits_lineBits, length_lineBits]

/-- The data bits still missing and the stop bit. -/
theorem runLine_rest {got rest : List Bool} {b : Byte} (hbits : lineBits b = got ++ rest) (stop : Bool) :
    runLine (.receiving got) (rest ++ [stop]) = if stop then (.idle, [.byte b]) else (.waitHigh, [.fault]) := by
  have hlength : got.length + rest.length ≤ 8 := by
    rw [← List.length_append, ← hbits]
    exact le_rfl
  rw [runLine_append, runLine_bits got rest hlength, ← hbits, runLine_stop, List.nil_append]

theorem runLine_of_delivers {line : Line} {samples : List Bool} {b : Byte} {stop : Bool}
    (h : Delivers line samples b stop) :
    runLine line samples = if stop then (.idle, [.byte b]) else (.waitHigh, [.fault]) := by
  obtain ⟨rfl, noise, rfl⟩ | ⟨got, rest, rfl, hbits, rfl⟩ := h
  · have hbits : lineBits b = [] ++ lineBits b := rfl
    rw [runLine_append, runLine_noise, runLine_start, runLine_rest hbits, List.nil_append]
  · exact runLine_rest hbits stop

/-- A cue-link row whose samples complete the byte `b` does its act on `b`, or nothing where the byte is not its own. -/
theorem State.lineRow_of_delivers {s : State} (hreset : s.inReset = false) {samples : List Bool} {b : Byte}
    (h : Delivers s.link.line samples b true) (act : State → Byte → Option State) :
    s.lineRow samples act = (act (s.setLine .idle) b).getD s := by
  rw [State.lineRow, if_neg (by rw [hreset]; decide), runLine_of_delivers h]
  rfl

/-! ### The content of a message, by its start byte (R140, check 2) -/

section
variable {d1 : Byte}

theorem messageOf?_keyDown : messageOf? 0x81 d1 = if d1.toNat ≤ 119 then some (.keyDown d1.toNat) else none := rfl

theorem messageOf?_keyUp : messageOf? 0x82 d1 = if d1.toNat ≤ 119 then some (.keyUp d1.toNat) else none := rfl

theorem messageOf?_latch : messageOf? 0x84 d1 = (flagOf? d1.toNat).map .latch := rfl

theorem messageOf?_sceneCue : messageOf? 0x85 d1 = (sceneOf? d1).map .sceneCue := rfl

theorem messageOf?_setlistStep_bad (hnext : d1 ≠ 1) (hprev : d1 ≠ 2) : messageOf? 0x86 d1 = none := by
  have step : messageOf? 0x86 d1 =
      if d1 = 1 then some (.setlistStep true) else if d1 = 2 then some (.setlistStep false) else none := rfl
  rw [step, if_neg hnext, if_neg hprev]

theorem messageOf?_of_unknown_start {start : Byte} (h : start.toNat < 0x81 ∨ 0x87 < start.toNat) :
    messageOf? start d1 = none := by
  have hne : ∀ code : Byte, 0x81 ≤ code.toNat → code.toNat ≤ 0x87 → start ≠ code := by
    rintro code hlow hhigh rfl
    omega
  simp [messageOf?, hne]

end

/-! ### The examination (R140) -/

theorem checkByte_eq_iff {start d1 d2 check : Byte} :
    check = checkByte start d1 d2 ↔ check.toNat = (start.toNat + d1.toNat + d2.toNat) % 128 := by
  rw [BitVec.toNat_eq, checkByte, byte, BitVec.toNat_ofNat, Nat.mod_eq_of_lt (b := 2 ^ 8) (by omega)]

section
variable (s : State) {start d1 d2 check : Byte}

theorem State.examine_badCheck (h : check.toNat ≠ (start.toNat + d1.toNat + d2.toNat) % 128) :
    s.examine start d1 d2 check = (s.setPartial []).linkFault .check :=
  if_pos (mt checkByte_eq_iff.1 h)

variable (hcheck : check.toNat = (start.toNat + d1.toNat + d2.toNat) % 128)
include hcheck

theorem State.examine_badContent (h : messageOf? start d1 = none) :
    s.examine start d1 d2 check = (s.setPartial []).linkFault .content := by
  simp [State.examine, checkByte_eq_iff.2 hcheck, h]

theorem State.examine_good {m : CueMessage} (h : messageOf? start d1 = some m) :
    s.examine start d1 d2 check = (s.setPartial []).joinFifo m := by
  simp [State.examine, checkByte_eq_iff.2 hcheck, h]

end

/-- A good message joins a FIFO of fewer than 16, and CUE_HOLD follows the new depth. -/
theorem State.joinFifo_eq (s : State) (m : CueMessage) : s.joinFifo m =
    if s.link.fifo.length + 1 ≤ 16 then { s with link := { s.link with
        fifo := s.link.fifo ++ [m], hold := holdAfter (s.link.fifo.length + 1) s.link.hold } }
    else s.linkFault .overrun := by
  rw [State.joinFifo, State.setFifo, List.length_append, List.length_singleton]
  rfl

/-! ### The row -/

/-- A check byte that completes a message of three bytes has it examined, on an idle line. -/
theorem cueLinkMessage_examines {s : State} {start d1 d2 check : Byte} {samples : List Bool} (hreset : s.inReset = false)
    (hdelivers : Delivers s.link.line samples check true) (hmsb : check.msb = false)
    (hpartial : s.link.partialBytes = [start, d1, d2]) :
    exec (.cueLinkMessage samples) s = .next ((s.setLine .idle).examine start d1 d2 check) := by
  refine congrArg Host.Outcome.next ?_
  rw [State.lineRow_of_delivers hreset hdelivers]
  simp [actCueLinkMessage, hpartial, hmsb]

/-- Settles O49: the row is the examination, whose outcome for each start byte is read off the message's content. -/
theorem cueLinkMessageExamined : Obligations.CueLinkMessageExamined := by
  intro s start d1 d2 check samples hreset hdelivers hmsb hpartial row fault faults depth good bad
  have hrow : row = .next ((s.setLine .idle).examine start d1 d2 check) :=
    cueLinkMessage_examines hreset hdelivers hmsb hpartial
  refine ⟨fun hcheck => ?_, fun hcheck => ?_⟩
  · rw [hrow, State.examine_badCheck _ hcheck]
    rfl
  have hgood : ∀ m, messageOf? start d1 = some m → good m := fun m hm => by
    rw [State.examine_good _ hcheck hm, State.joinFifo_eq] at hrow
    exact hrow
  have hbad : messageOf? start d1 = none → bad := fun hnone => by
    rw [State.examine_badContent _ hcheck hnone] at hrow
    exact hrow
  refine ⟨?keyDown, ?keyUp, ?keysClear, ?latch, ?sceneCue, ?setlistStep, ?cueFire,
    fun hstart => hbad (messageOf?_of_unknown_start hstart)⟩
  case keyDown =>
    rintro rfl
    split_ifs with hnote
    · exact hgood _ (messageOf?_keyDown.trans (if_pos hnote))
    · exact hbad (messageOf?_keyDown.trans (if_neg hnote))
  case keyUp =>
    rintro rfl
    split_ifs with hnote
    · exact hgood _ (messageOf?_keyUp.trans (if_pos hnote))
    · exact hbad (messageOf?_keyUp.trans (if_neg hnote))
  case keysClear =>
    rintro rfl
    exact hgood _ rfl
  case latch =>
    rintro rfl
    exact ⟨by rintro rfl; exact hgood _ rfl, by rintro rfl; exact hgood _ rfl,
      fun h => hbad (by rw [messageOf?_latch, flagOf?_of_gt h, Option.map_none])⟩
  case sceneCue =>
    rintro rfl
    exact ⟨fun n h => hgood _ (by rw [messageOf?_sceneCue, sceneOf?_of_eq h, Option.map_some]),
      fun h => hbad (by rw [messageOf?_sceneCue, sceneOf?_of_ge h, Option.map_none])⟩
  case setlistStep =>
    rintro rfl
    exact ⟨by rintro rfl; exact hgood _ rfl, by rintro rfl; exact hgood _ rfl,
      fun hnext hprev => hbad (messageOf?_setlistStep_bad hnext hprev)⟩
  case cueFire =>
    rintro rfl
    exact hgood _ rfl

end Sys2Proof.Machine
end

section
/-! PROOF. The chord messages of the cue link (R143, R145, R147 to R149): a head that the handler takes, the chord set after a key
goes down or up, and O50. -/

namespace Sys2Proof.Machine

/-! ### The chord set after a key (R147, R148) -/

/-- The entries that a KEY_DOWN finds: none where latch mode is ON and no entry is down (R147). -/
def keptEntries (c : ChordSet) : List ChordEntry :=
  if c.latch = true ∧ c.entries ≠ [] ∧ (∀ e ∈ c.entries, e.down = false) then [] else c.entries

theorem keyDownChord_eq (c : ChordSet) (n : Nat) : keyDownChord c n =
    { entries := if ∃ e ∈ keptEntries c, e.note = n then
          (keptEntries c).map fun e => if e.note = n then { e with down := true } else e
        else (if 8 ≤ (keptEntries c).length then (keptEntries c).drop 1 else keptEntries c) ++ [{ note := n, down := true }]
      latch := c.latch } := by
  have hkept : (if c.latch && !c.entries.isEmpty && c.entries.all (fun e => !e.down) then [] else c.entries) =
      keptEntries c := by
    simp [keptEntries, and_assoc]
  simp only [keyDownChord, hkept, Config.chordSize, List.any_eq_true, decide_eq_true_eq, List.drop_one]
  split <;> rfl

theorem keyUpChord_eq (c : ChordSet) (n : Nat) : keyUpChord c n =
    { entries := if c.latch = true then c.entries.map fun e => if e.note = n then { e with down := false } else e
        else c.entries.filter fun e => e.note ≠ n
      latch := c.latch } := by
  rw [keyUpChord]
  split <;> rfl

/-! ### A head that the handler takes (R143) -/

theorem handlerHead_of_cons {s : State} {m : CueMessage} {rest : List CueMessage} (hreset : s.inReset = false)
    (hwaits : s.link.headWaits = false) (hfifo : s.link.fifo = m :: rest) : handlerHead s = some m := by
  simp [handlerHead, hreset, hwaits, hfifo]

theorem State.popHead_of_cons {s : State} {m : CueMessage} {rest : List CueMessage} (hfifo : s.link.fifo = m :: rest) :
    s.popHead = s.setFifo rest := by
  rw [State.popHead, hfifo, List.tail_cons]

section
variable {s : State}

theorem keyDown_of_head {n : Nat} (h : handlerHead s = some (.keyDown n)) :
    exec .keyDown s = .next { s.popHead with chord := keyDownChord s.chord n } := by
  change execKeyDown s = _
  rw [execKeyDown, h]

theorem keyUp_of_head {n : Nat} (h : handlerHead s = some (.keyUp n)) :
    exec .keyUp s = .next { s.popHead with chord := keyUpChord s.chord n } := by
  change execKeyUp s = _
  rw [execKeyUp, h]

theorem keysClear_of_head (h : handlerHead s = some .keysClear) :
    exec .keysClear s = .next { s.popHead with chord := clearChord s.chord } := by
  change execKeysClear s = _
  rw [execKeysClear, h]

theorem latch_of_head {on : Bool} (h : handlerHead s = some (.latch on)) :
    exec .latch s = .next { s.popHead with chord := setLatch s.chord on } := by
  change execLatch s = _
  rw [execLatch, h]

end

/-- Settles O50: each row takes the head, and the chord set becomes what the message makes of it. -/
theorem chordMessagesTaken : Obligations.ChordMessagesTaken := by
  intro s m rest hreset hwaits hfifo link old taken
  have hhead := handlerHead_of_cons hreset hwaits hfifo
  have hpop := State.popHead_of_cons hfifo
  refine ⟨?keyDown, ?keyUp, ?keysClear, ?latchOn, ?latchOff⟩
  case keyDown =>
    rintro n rfl
    rw [keyDown_of_head hhead, hpop, keyDownChord_eq]
    rfl
  case keyUp =>
    rintro n rfl
    rw [keyUp_of_head hhead, hpop, keyUpChord_eq]
    rfl
  case keysClear =>
    rintro rfl
    rw [keysClear_of_head hhead, hpop]
    rfl
  case latchOn =>
    rintro rfl
    rw [latch_of_head hhead, hpop]
    rfl
  case latchOff =>
    rintro rfl
    rw [latch_of_head hhead, hpop]
    rfl

end Sys2Proof.Machine
end

section
/-! PROOF. FETCH NOTICE, SET NOTICES and ATTN_N (R172, R176 to R178): the kind that is chosen, a three-byte set bit by bit,
and O10. -/

namespace Sys2Proof.Machine

/-! ### The kind that FETCH NOTICE chooses (R177) -/

section
variable {ns : Vector Notice 17}

/-- Kind `k` waits to be fetched: it is both pending and enabled. -/
def Waits (ns : Vector Notice 17) (k : Fin 17) : Prop := ns[k].pending = true ∧ ns[k].enabled = true

@[simp] theorem fetchable_eq_true_iff {k : Fin 17} : fetchable ns k = true ↔ Waits ns k := by
  rw [fetchable, Bool.and_eq_true, Waits]

@[simp] theorem fetchable_eq_false_iff {k : Fin 17} : fetchable ns k = false ↔ ¬Waits ns k := by
  rw [← fetchable_eq_true_iff, Bool.not_eq_true]

theorem chosenNotice_of_none_waits (h : ∀ k, ¬Waits ns k) : chosenNotice ns = none := by
  simp [chosenNotice, h]

/-- The lowest URGENT kind that waits is chosen. -/
theorem chosenNotice_of_lowest_urgent {k : Fin 17} (hwaits : Waits ns k) (hurgent : ns[k].urgent = true)
    (hlower : ∀ j < k, Waits ns j → ns[j].urgent = false) : chosenNotice ns = some k := by
  have first : (List.finRange 17).find? (fun j => fetchable ns j && ns[j].urgent) = some k := by
    rw [← Fin.find?_eq_find?_finRange, Fin.find?_eq_some_iff]
    simp only [Bool.and_eq_true, Bool.and_eq_false_imp, fetchable_eq_true_iff]
    exact ⟨⟨hwaits, hurgent⟩, hlower⟩
  rw [chosenNotice, first]
  rfl

/-- Where no URGENT kind waits, the lowest kind that waits is chosen. -/
theorem chosenNotice_of_lowest_routine {k : Fin 17} (hwaits : Waits ns k)
    (hroutine : ∀ j, Waits ns j → ns[j].urgent = false) (hlower : ∀ j < k, ¬Waits ns j) : chosenNotice ns = some k := by
  have noUrgent : (List.finRange 17).find? (fun j => fetchable ns j && ns[j].urgent) = none := by
    simpa using hroutine
  have first : (List.finRange 17).find? (fun j => fetchable ns j) = some k := by
    rw [← Fin.find?_eq_find?_finRange, Fin.find?_eq_some_iff]
    simpa [hwaits] using hlower
  rw [chosenNotice, noUrgent, first]
  rfl

/-- The chosen kind is URGENT where any waiting kind is, and it is the lowest waiting kind of its own group. -/
theorem chosenNotice_of_first {k : Fin 17} (hwaits : Waits ns k)
    (hfirst : ∀ j, Waits ns j → (ns[j].urgent = true → ns[k].urgent = true) ∧ (ns[j].urgent = ns[k].urgent → k ≤ j)) :
    chosenNotice ns = some k := by
  cases hgroup : ns[k].urgent with
  | true =>
    refine chosenNotice_of_lowest_urgent hwaits hgroup fun j hj hj' => ?_
    obtain ⟨-, hlowest⟩ := hfirst j hj'
    exact Bool.eq_false_iff.2 fun hurgent => absurd (hlowest (hurgent.trans hgroup.symm)) (not_le.2 hj)
  | false =>
    have hroutine : ∀ j, Waits ns j → ns[j].urgent = false := fun j hj' => by
      obtain ⟨hurgent, -⟩ := hfirst j hj'
      exact Bool.eq_false_iff.2 (mt hurgent (by rw [hgroup]; decide))
    refine chosenNotice_of_lowest_routine hwaits hroutine fun j hj hj' => ?_
    obtain ⟨-, hlowest⟩ := hfirst j hj'
    exact absurd (hlowest ((hroutine j hj').trans hgroup.symm)) (not_le.2 hj)

end

/-! ### The sets of SET NOTICES (R178, R191) -/

theorem noticeSet_eq_toNat (b0 b1 b2 : Byte) : noticeSet b0 b1 b2 = (b0 ++ b1 ++ b2 : BitVec 24).toNat := by
  rw [BitVec.toNat_append, ← Nat.shiftLeft_add_eq_or_of_lt b2.isLt, ← unsigned16_eq_toNat, Nat.shiftLeft_eq, unsigned16,
    noticeSet]
  omega

theorem getElem_writeNotices (ns : Vector Notice 17) (enable urgent : Nat) (k : Fin 17) :
    (writeNotices ns enable urgent)[k] =
      { ns[k] with enabled := enable.testBit k.val, urgent := urgent.testBit k.val } := by
  simp [writeNotices]

/-! ### The two rows and the line -/

theorem answerFetchNotice_none {s : State} (h : ∀ k, ¬Waits s.notices k) :
    answerFetchNotice s = .done s [0xFF, 0, 0] := by
  rw [answerFetchNotice, chosenNotice_of_none_waits h]

theorem answerFetchNotice_some {s : State} {k : Fin 17} (h : chosenNotice s.notices = some k) :
    answerFetchNotice s = .done { s with notices := s.notices.set k (clearNotice s.notices[k]) }
      [byte k.val, byte s.notices[k].count, byte s.notices[k].subject] := by
  rw [answerFetchNotice, h]

/-- ATTN_N is low exactly while a kind waits, outside a hard reset (R172, R176). -/
theorem State.attention_iff (s : State) : s.attention = true ↔ s.inReset = false ∧ ∃ k, Waits s.notices k := by
  simp [State.attention]

/-- Settles O10: the choice of R177, the sets of R178 bit by bit, and the line of R176. -/
theorem noticesFetchedSetAndSignalled : Obligations.NoticesFetchedSetAndSignalled := by
  refine ⟨?fetch, ?set, State.attention_iff⟩
  case fetch =>
    intro s f htakes hlength u waits
    have hl : requiredLength 0x03 = some f.declared.toNat := by rw [hlength]; rfl
    have hnotices : u.notices = s.notices := atTaking_notices s ⟨0x03, f⟩
    constructor
    · intro k hwaits hfirst
      have hchosen : chosenNotice u.notices = some k := hnotices ▸ chosenNotice_of_first hwaits hfirst
      have run := State.runCommand_done htakes hl (answerFetchNotice_some hchosen)
      rw [hnotices] at run
      exact congrArg _ run
    · intro hnone
      have hquiet : ∀ k, ¬Waits u.notices k := hnotices ▸ hnone
      exact congrArg _ (State.runCommand_done htakes hl (answerFetchNotice_none hquiet))
  case set =>
    intro s f htakes hlength u
    have hl : requiredLength 0x04 = some f.declared.toNat := by rw [hlength]; rfl
    refine ⟨_, congrArg _ (State.runCommand_done htakes hl rfl), fun k => ?_⟩
    rw [getElem_writeNotices, atTaking_notices, noticeSet_eq_toNat, noticeSet_eq_toNat, BitVec.testBit_toNat,
      BitVec.testBit_toNat]
    rfl

end Sys2Proof.Machine
end

section
/-! PROOF. READ STATUS and READ REFUSAL (R188, R189): the pending notice set bit by bit, the fourteen status bytes, and O9. -/

namespace Sys2Proof.Machine

/-! ### The pending notice set (R189, R191) -/

/-- Flags with the weights 1, 2, 4, … are the bits of their sum. -/
theorem sum_flag_two_pow_eq_ofBits {n : Nat} (p : Fin n → Bool) :
    ((List.finRange n).map fun k => flag (p k) (2 ^ k.val)).sum = Nat.ofBits p := by
  induction n with
  | zero => rfl
  | succ n ih =>
    have first : flag (p 0) (2 ^ (0 : Fin (n + 1)).val) = (p 0).toNat := by cases h : p 0 <;> rfl
    have later (k : Fin n) : flag (p k.succ) (2 ^ k.succ.val) = 2 * flag (p k.succ) (2 ^ k.val) := by
      rw [Fin.val_succ, pow_succ', flag, flag, mul_ite, mul_zero]
    rw [List.finRange_succ, List.map_cons, List.sum_cons, List.map_map, Nat.ofBits_succ, ← ih, first,
      ← List.sum_map_mul_left, add_comm]
    exact congrArg (· + _) (congrArg List.sum (List.map_congr_left fun k _ => later k))

/-- Bit `k` of the pending notice set is kind `k`'s pending flag, and no bit above the seventeen kinds is set. -/
theorem testBit_pendingSet (ns : Vector Notice 17) (i : Nat) :
    (pendingSet ns).testBit i = if h : i < 17 then ns[i].pending else false := by
  rw [pendingSet, sum_flag_two_pow_eq_ofBits fun k => ns[k].pending, Nat.testBit_ofBits]
  rfl

/-- The three bytes of a number, most significant first. -/
theorem bytes24_eq_extractLsb' (n : Nat) : bytes24 n =
    [(BitVec.ofNat 24 n).extractLsb' 16 8, (BitVec.ofNat 24 n).extractLsb' 8 8, (BitVec.ofNat 24 n).extractLsb' 0 8] := by
  have part {i : Nat} (hi : i + 8 ≤ 24) : byte (n / 2 ^ i) = (BitVec.ofNat 24 n).extractLsb' i 8 := by
    apply BitVec.eq_of_getLsbD_eq
    intro j hj
    have hbit : i + j < 24 := by omega
    rw [byte, BitVec.getLsbD_extractLsb', BitVec.getLsbD_ofNat, BitVec.getLsbD_ofNat, Nat.testBit_div_two_pow, add_comm j,
      decide_eq_true hbit, Bool.true_and]
  rw [← part (by decide), ← part (by decide), ← part (by decide), pow_zero, Nat.div_one]
  rfl

/-! ### The fourteen bytes (R189) -/

/-- The causes of the latest reset are numbered from 1 (R172). -/
theorem byte_causeCode (c : ResetCause) :
    byte (causeCode c) = (match c with | .powerOn => 1 | .resetPin => 2 | .restartCommand => 3) := by
  cases c <;> rfl

theorem freeCount_eq_countP (s : State) :
    freeCount s = (List.finRange 16).countP fun i : Slot => s.voices[i].state = .free := by
  rw [freeCount, List.countP_eq_length_filter]

/-- Nothing that the status bytes report is the port's, so the taking leaves them. -/
theorem statusImage_atTaking (s : State) (c : Command) : statusImage (atTaking s c) = statusImage s := by
  obtain ⟨p, h⟩ := atTaking_frame s c
  rw [h]
  rfl

/-- The port's refusal record stands through the taking of a command. -/
@[simp] theorem atTaking_refusal (s : State) (c : Command) : (atTaking s c).port.refusal = s.port.refusal := by
  unfold atTaking
  split <;> rfl

/-! ### The two rows -/

/-- Settles O9: READ STATUS by the bytes of the status image, READ REFUSAL by the record that stood before the taking. -/
theorem statusAndRefusalReads : Obligations.StatusAndRefusalReads := by
  refine ⟨fun s f htakes hlength => ?status, fun s f htakes hlength => ?refusal⟩
  case status =>
    have hl : requiredLength 0x01 = some f.declared.toNat := by rw [hlength]; rfl
    have run := State.runCommand_done (act := answerReadStatus) htakes hl rfl
    refine ⟨BitVec.ofNat 24 (pendingSet s.notices), fun k => ?_, ?_⟩
    · rw [BitVec.getLsbD_ofNat, testBit_pendingSet, decide_eq_true k.isLt, Bool.true_and]
    · rw [statusImage_atTaking, statusImage, byte_causeCode, freeCount_eq_countP, bytes16_eq_be16, bytes16_eq_be16,
        bytes24_eq_extractLsb'] at run
      exact congrArg _ run
  case refusal =>
    have hl : requiredLength 0x02 = some f.declared.toNat := by rw [hlength]; rfl
    have run := State.runCommand_done (act := answerReadRefusal) htakes hl rfl
    rw [atTaking_refusal] at run
    exact congrArg _ run

end Sys2Proof.Machine
end

section
/-! PROOF. What a step is made of: `Keeps s₀ t` says that `t` keeps every law that `s₀` meets. Every act of the part keeps every law,
said once for each kind of act, and not once for each of the 65 rows; the laws right after reset (O60). -/

namespace Sys2Proof.Machine

/-! ### The laws together -/

/-- A voice's working values are in their ranges (R42, R43). -/
def ValuesLegal (v : Voice) : Prop :=
  v.level ≤ 4096 ∧ v.levelTarget ≤ 4096 ∧ (-2400 ≤ v.delta ∧ v.delta ≤ 2400) ∧ RatioLegal v.ratio

theorem voiceLaw_iff (s : State) : VoiceLaw s ↔ ∀ i : Slot, ValuesLegal s.voices[i] := Iff.rfl

/-! The parts of the laws that many acts lean on, by name, and one part of a law judged anew with the others as they were. -/

theorem RecordLaw.queued {s : State} (h : RecordLaw s) : ∀ e ∈ s.queue, entryLegal e = true := h.2.2.1

theorem RecordLaw.scene {s : State} (h : RecordLaw s) : ∀ n : SceneId, ∀ sc ∈ s.scenes[n], SceneLegal sc := h.2.2.2.1

theorem RecordLaw.lane {s : State} (h : RecordLaw s) (k : LaneId) : CharsLegal s.lanes[k].chars ∧ s.lanes[k].settings.dry ≤ 4096 :=
  h.2.2.2.2.1 k

theorem RecordLaw.template {s : State} (h : RecordLaw s) (i : Slot) : s.voices[i].state ≠ .free → TemplateLegal s.voices[i].template :=
  h.2.2.2.2.2 i

theorem TemplateLegal.pan {t : Template} (h : TemplateLegal t) : t.pan ≤ 127 := h.2.2.2.2.2.2.2.2.1

theorem TemplateLegal.level {t : Template} (h : TemplateLegal t) : t.level ≤ 4096 := h.2.2.2.2.2.2.2.1

theorem TrackingLegal.tallies {l : Lane} (h : TrackingLegal l) : l.resultCount ≤ 65535 ∧ l.correctionCount ≤ 65535 :=
  ⟨h.2.2.2.2.1, h.2.2.2.2.2.1⟩

section
variable {a b c d e f g r x : Prop}

theorem imp_third (h : c → x) : a ∧ b ∧ c ∧ r → a ∧ b ∧ x ∧ r := .imp_right (.imp_right (.imp_left h))

theorem imp_fourth (h : d → x) : a ∧ b ∧ c ∧ d ∧ r → a ∧ b ∧ c ∧ x ∧ r := .imp_right (imp_third h)

theorem imp_fifth (h : e → x) : a ∧ b ∧ c ∧ d ∧ e ∧ r → a ∧ b ∧ c ∧ d ∧ x ∧ r := .imp_right (imp_fourth h)

theorem imp_sixth (h : f → x) : a ∧ b ∧ c ∧ d ∧ e ∧ f ∧ r → a ∧ b ∧ c ∧ d ∧ e ∧ x ∧ r := .imp_right (imp_fifth h)

theorem imp_seventh (h : g → x) : a ∧ b ∧ c ∧ d ∧ e ∧ f ∧ g ∧ r → a ∧ b ∧ c ∧ d ∧ e ∧ f ∧ x ∧ r := .imp_right (imp_sixth h)

theorem imp_afterSeventh (h : r → x) : a ∧ b ∧ c ∧ d ∧ e ∧ f ∧ g ∧ r → a ∧ b ∧ c ∧ d ∧ e ∧ f ∧ g ∧ x :=
  .imp_right (.imp_right (.imp_right (.imp_right (.imp_right (.imp_right (.imp_right h))))))

end

/-- `t` keeps every law that `s₀` meets, each with the other laws that it leans on. -/
structure Keeps (s₀ t : State) : Prop where
  queueLaw_cueLaw : QueueLaw s₀ ∧ CueLaw s₀ → QueueLaw t ∧ CueLaw t
  noticeLaw : NoticeLaw s₀ → NoticeLaw t
  clockLaw : ClockLaw s₀ → ClockLaw t
  portLaw : PortLaw s₀ → PortLaw t
  poolLaw : PoolLaw s₀ → PoolLaw t
  tagLaw : TagLaw s₀ → TagLaw t
  recordLaw : RecordLaw s₀ → RecordLaw t
  voiceLaw : RecordLaw s₀ → VoiceLaw s₀ → VoiceLaw t
  offLaw : PoolLaw s₀ → RecordLaw s₀ → OffLaw s₀ → OffLaw t
  trackingLaw : RecordLaw s₀ → TrackingLaw s₀ → TrackingLaw t
  linkLaw : LinkLaw s₀ → LinkLaw t
  chordLaw : LinkLaw s₀ → ChordLaw s₀ → ChordLaw t
  renderLaw : RecordLaw s₀ → VoiceLaw s₀ → RenderLaw s₀ → RenderLaw t

variable {s₀ s : State}

theorem Keeps.refl (s : State) : Keeps s s :=
  ⟨id, id, id, id, id, id, id, fun _ => id, fun _ _ => id, fun _ => id, id, fun _ => id, fun _ _ => id⟩

/-- Either branch keeps the laws. -/
theorem Keeps.either {c : Prop} [Decidable c] {t u : State} (ht : c → Keeps s₀ t) (hu : ¬c → Keeps s₀ u) :
    Keeps s₀ (if c then t else u) := iteInduction ht hu

/-- What holds of a written entry and of every other entry as it was holds of every entry. -/
theorem forall_set {α : Type} {n : Nat} {v : Vector α n} {i : Fin n} {x : α} {P : Fin n → α → Prop} (hi : P i x)
    (hrest : ∀ j, i ≠ j → P j (v[j]'j.isLt)) (j : Fin n) : P j ((v.set i x i.isLt)[j]'j.isLt) := by
  refine (Vector.getElem_set i.isLt j.isLt).symm ▸ iteInduction (motive := P j) (fun hij => ?_) fun hij => hrest j fun h => hij (h ▸ rfl)
  obtain rfl := Fin.ext hij
  exact hi

/-- A fold of operations that each keep the laws. -/
theorem Keeps.foldl {α : Type} {g : State → α → State} {l : List α}
    (hg : ∀ s, ∀ a ∈ l, Keeps s₀ s → Keeps s₀ (g s a)) {s : State} (h : Keeps s₀ s) : Keeps s₀ (l.foldl g s) := by
  induction l generalizing s with
  | nil => exact h
  | cons a l ih => exact ih (fun t b hb => hg t b (.tail _ hb)) (hg s a (.head _) h)

/-- What every operation of a fold leaves as it was. -/
theorem foldl_unchanged {α β : Type} {g : State → β} {f : State → α → State} (hf : ∀ s a, g (f s a) = g s) (l : List α) (s : State) :
    g (l.foldl f s) = g s :=
  List.foldlRecOn l f (motive := fun t => g t = g s) rfl fun t ht a _ => (hf t a).trans ht

/-- What is seen of entry `j`, after steps that each write what is seen of their own entry alone, and that come once for each
entry or do nothing more a second time. -/
theorem foldl_at {ι α : Type} [DecidableEq ι] {l : List ι} {F : ι → α → α} (once : l.Nodup ∨ ∀ j x, F j (F j x) = F j x)
    {g : State → ι → α} {f : State → ι → State} (hf : ∀ s i j, g (f s i) j = if i = j then F j (g s j) else g s j) (s : State) (j : ι) :
    g (l.foldl f s) j = if j ∈ l then F j (g s j) else g s j := by
  induction l generalizing s with
  | nil => exact (if_neg List.not_mem_nil).symm
  | cons i l ih =>
    refine (ih (once.imp_left fun h => (List.nodup_cons.1 h).2) (f s i)).trans ?_
    rw [hf]
    by_cases hij : i = j
    · rw [if_pos hij, if_pos (List.mem_cons.2 (.inl hij.symm))]
      exact ite_eq_right_iff.2 fun hj => once.elim (fun h => absurd hj (hij ▸ (List.nodup_cons.1 h).1)) fun h => h j (g s j)
    · rw [if_neg hij]
      exact if_congr (List.mem_cons.trans (or_iff_right (Ne.symm hij))).symm rfl rfl

/-- An entry joins the queue. -/
theorem entryLegal_append {q : List Entry} {e : Entry} (hq : ∀ x ∈ q, entryLegal x = true) (he : entryLegal e = true) :
    ∀ x ∈ q ++ [e], entryLegal x = true := fun x hx =>
  (List.mem_append.1 hx).elim (hq x) fun hx => List.mem_singleton.1 hx ▸ he

/-! ### Acts on one block -/

section
variable (h : Keeps s₀ s)
include h

theorem Keeps.port (p : Port) (keeps : PortLaw s → PortLaw { s with port := p }) : Keeps s₀ { s with port := p } :=
  { h with portLaw := fun hp => keeps (h.portLaw hp) }

theorem Keeps.notices (ns : Vector Notice 17) (keeps : NoticeLaw s → NoticeLaw { s with notices := ns }) :
    Keeps s₀ { s with notices := ns } :=
  { h with noticeLaw := fun hn => keeps (h.noticeLaw hn) }

theorem Keeps.choiceNo (n : Nat) : Keeps s₀ { s with choiceNo := n } := { h with }

theorem Keeps.pending (l : List Instr) : Keeps s₀ { s with pending := l } := { h with }

theorem Keeps.pedals (ps : Vector Pedal 4) : Keeps s₀ { s with pedals := ps } := { h with }

theorem Keeps.currentScene (n : Option SceneId) : Keeps s₀ { s with currentScene := n } := { h with }

theorem Keeps.output (out : Vector TdmSlot 8) : Keeps s₀ { s with audio := { s.audio with out := out } } := { h with }

theorem Keeps.clock (c : Supervisor) (keeps : ClockLaw s → ClockLaw { s with clock := c }) : Keeps s₀ { s with clock := c } :=
  { h with clockLaw := fun hc => keeps (h.clockLaw hc) }

/-- The audio side, wherever its law holds after. -/
theorem Keeps.render (cs : Vector Channel 16) (ms : Vector Mixer 4) (au : Audio) (n : Nat)
    (keeps : RecordLaw s₀ → RecordLaw s → VoiceLaw s → RenderLaw s →
      RenderLaw { s with channels := cs, mixers := ms, audio := au, sampleNo := n }) :
    Keeps s₀ { s with channels := cs, mixers := ms, audio := au, sampleNo := n } :=
  { h with renderLaw := fun hrec hv hr => keeps hrec (h.recordLaw hrec) (h.voiceLaw hrec hv) (h.renderLaw hrec hv hr) }

theorem Keeps.channels (cs : Vector Channel 16) (legal : RecordLaw s → VoiceLaw s → RenderLaw s → ∀ i : Slot, ChannelLegal cs[i])
    (quiet : ∀ i : Slot, s.voices[i].state = .free ∨ s.voices[i].state = .pending → s.channels[i].nextGain = 0 →
      cs[i].nextGain = 0) : Keeps s₀ { s with channels := cs } :=
  h.render cs s.mixers s.audio s.sampleNo fun _ hrec hv hr =>
    ⟨legal hrec hv hr, fun i hi => quiet i hi (hr.2.1 i hi), hr.2.2⟩

theorem Keeps.mixers (ms : Vector Mixer 4)
    (legal : RecordLaw s₀ → RecordLaw s → RenderLaw s → ∀ k : LaneId, RampLegal ms[k].dry ∧ RampLegal ms[k].bypass) :
    Keeps s₀ { s with mixers := ms } :=
  h.render s.channels ms s.audio s.sampleNo fun hrec₀ hrec _ hr => ⟨hr.1, hr.2.1, legal hrec₀ hrec hr, hr.2.2.2⟩

theorem Keeps.keyMap (km : KeyMap) (legal : RecordLaw s₀ → KeyMapLegal km) : Keeps s₀ { s with keyMap := km } :=
  { h with recordLaw := fun hrec => (h.recordLaw hrec).imp_left fun _ => legal hrec }

theorem Keeps.setlist (l : Setlist) (legal : SetlistLegal s.setlist → SetlistLegal l) : Keeps s₀ { s with setlist := l } :=
  { h with recordLaw := fun hrec => (h.recordLaw hrec).imp_right (.imp_left legal) }

theorem Keeps.scene (n : SceneId) (sc : Option Scene) (legal : ∀ x ∈ sc, SceneLegal x) : Keeps s₀ (s.setScene n sc) :=
  { h with
    recordLaw := fun hrec => imp_fourth (fun hscenes => forall_set (P := fun _ sc => ∀ x ∈ sc, SceneLegal x) legal fun m _ => hscenes m)
      (h.recordLaw hrec) }

/-- A queue whose entries are legal, with a cue that keeps its law and its reserved place. -/
theorem Keeps.queueCue (q : List Entry) (c : ArmedCue) (legal : RecordLaw s → RecordLaw s₀ → ∀ e ∈ q, entryLegal e = true)
    (keeps : QueueLaw s → CueLaw s → QueueLaw { s with queue := q, cue := c } ∧ CueLaw { s with queue := q, cue := c }) :
    Keeps s₀ { s with queue := q, cue := c } :=
  { h with
    queueLaw_cueLaw := fun hq => keeps (h.queueLaw_cueLaw hq).1 (h.queueLaw_cueLaw hq).2
    recordLaw := fun hrec => imp_third (fun _ => legal (h.recordLaw hrec) hrec) (h.recordLaw hrec) }

theorem Keeps.cue (c : ArmedCue) (keeps : QueueLaw s → CueLaw s → QueueLaw { s with cue := c } ∧ CueLaw { s with cue := c }) :
    Keeps s₀ { s with cue := c } :=
  h.queueCue s.queue c (fun hrec _ => hrec.queued) keeps

theorem Keeps.stage (e : Entry) (src : Source) (hsrc : src ≠ .armedCue) (place : hasPlace s src = true)
    (legal : RecordLaw s₀ → entryLegal e = true) : Keeps s₀ (s.stage e) := by
  refine h.queueCue (s.queue ++ [e]) s.cue (fun hrec hrec₀ => entryLegal_append hrec.queued (legal hrec₀)) fun _ hcue => ⟨?_, hcue⟩
  have hlimit := (hasPlace_iff s src).1 place
  have hroom : s.queue.length ≤ 15 := hlimit.trans (by split <;> decide)
  refine ⟨List.length_append ▸ Nat.succ_le_succ hroom, fun harmed => ?_⟩
  rw [if_pos ⟨harmed, hsrc⟩] at hlimit
  exact List.length_append ▸ Nat.succ_le_succ hlimit

theorem Keeps.emptyQueue : Keeps s₀ { s with queue := [] } :=
  h.queueCue [] s.cue (fun _ _ _ he => absurd he List.not_mem_nil) fun _ hcue => ⟨⟨Nat.zero_le _, fun _ => Nat.zero_le _⟩, hcue⟩

/-- The armed cue's take goes into the reserved place (R91, R126). -/
theorem Keeps.cueTaken (armed : s.cue.armed = true) :
    Keeps s₀ { s with queue := s.queue ++ [.take s.cue.scene], cue := { s.cue with armed := false, remaining := 0 } } := by
  refine h.queueCue _ _ (fun hrec _ => entryLegal_append hrec.queued rfl) fun hq hc => ⟨⟨?_, Bool.noConfusion⟩, ?_⟩
  · rw [List.length_append]
    exact Nat.succ_le_succ (hq.2 armed)
  · exact ⟨hc.1, Nat.zero_le _, fun _ => rfl, Bool.noConfusion, Bool.noConfusion⟩

theorem Keeps.link (l : CueLink) (keeps : LinkLaw s → LinkLaw { s with link := l }) : Keeps s₀ { s with link := l } :=
  { h with linkLaw := fun hl => keeps (h.linkLaw hl) }

theorem Keeps.chord (c : ChordSet) (keeps : LinkLaw s → ChordLaw s → ChordLaw { s with chord := c }) :
    Keeps s₀ { s with chord := c } :=
  { h with chordLaw := fun hl hc => keeps (h.linkLaw hl) (h.chordLaw hl hc) }

/-! ### Acts on the lanes -/

omit h in
theorem recordLaw_of_lanes (hrec : RecordLaw s) (ls : Vector Lane 4) (hlanes : ∀ k : LaneId, CharsLegal ls[k].chars ∧ ls[k].settings.dry ≤ 4096) :
    RecordLaw { s with lanes := ls } := imp_fifth (fun _ => hlanes) hrec

theorem Keeps.lane (k : LaneId) (l : Lane)
    (record : RecordLaw s₀ → RecordLaw s → CharsLegal l.chars ∧ l.settings.dry ≤ 4096)
    (tracking : RecordLaw s → TrackingLegal s.lanes[k] → TrackingLegal l)
    (on : PoolLaw s₀ → l.settings.on = false → s.lanes[k].settings.on = true →
      ∀ i : Slot, s.voices[i].template.lane = k → s.voices[i].state = .free) : Keeps s₀ (s.setLane k l) :=
  { h with
    recordLaw := fun hrec => recordLaw_of_lanes (h.recordLaw hrec) _
      (forall_set (P := fun _ (l : Lane) => CharsLegal l.chars ∧ l.settings.dry ≤ 4096) (record hrec (h.recordLaw hrec))
        fun j _ => (h.recordLaw hrec).lane j)
    trackingLaw := fun hrec htrack => forall_set (P := fun _ => TrackingLegal)
      (tracking (h.recordLaw hrec) (h.trackingLaw hrec htrack k)) fun j _ => h.trackingLaw hrec htrack j
    offLaw := fun hpool hrec hoff i hi => forall_set (P := fun j (l : Lane) => s.voices[i].template.lane = j →
        s.lanes[j].settings.on = true → l.settings.on = true)
      (fun hk hbefore => Bool.of_not_eq_false fun hnow => hi (on hpool hnow hbefore i hk)) (fun _ _ _ => id) _ rfl
      (h.offLaw hpool hrec hoff i hi) }

theorem Keeps.lanes (ls : Vector Lane 4) (settings : ∀ k : LaneId, ls[k].settings = s.lanes[k].settings)
    (chars : ∀ k : LaneId, ls[k].chars = s.lanes[k].chars)
    (tracking : ∀ k : LaneId, TrackingLegal s.lanes[k] → TrackingLegal ls[k]) : Keeps s₀ { s with lanes := ls } :=
  { h with
    recordLaw := fun hrec => recordLaw_of_lanes (h.recordLaw hrec) ls fun k =>
      (settings k).symm ▸ (chars k).symm ▸ (h.recordLaw hrec).lane k
    trackingLaw := fun hrec htrack k => tracking k (h.trackingLaw hrec htrack k)
    offLaw := fun hpool hrec hoff i hi => (settings _).symm ▸ h.offLaw hpool hrec hoff i hi }

end

end Sys2Proof.Machine
end

section
/-! PROOF. The laws right after reset (O60), and what single updates of tables make of the laws of their rows: notices, ramps,
render channels. -/

namespace Sys2Proof.Machine

/-! ### Right after reset -/

theorem reset_queueLaw_cueLaw : QueueLaw State.reset ∧ CueLaw State.reset := by decide

theorem reset_noticeLaw : NoticeLaw State.reset := by decide

theorem reset_clockLaw : ClockLaw State.reset := by decide

theorem reset_poolLaw : PoolLaw State.reset := by decide

theorem reset_tagLaw : TagLaw State.reset := by decide +kernel

theorem reset_recordLaw : RecordLaw State.reset := by
  refine ⟨by decide, by decide, by decide, fun n sc hsc => ?_, by decide, by decide⟩
  simp [State.reset] at hsc

theorem reset_offLaw : OffLaw State.reset := by decide

theorem reset_voiceLaw : VoiceLaw State.reset := by decide

theorem reset_trackingLaw : TrackingLaw State.reset := by decide

theorem reset_linkLaw : LinkLaw State.reset := by decide

theorem reset_chordLaw : ChordLaw State.reset := by decide

theorem reset_renderLaw : RenderLaw State.reset := by decide +kernel

theorem reset_portLaw : PortLaw State.reset := by decide

/-- Settles O60, law by law. -/
theorem resetMeetsEveryLaw : Obligations.ResetMeetsEveryLaw :=
  ⟨reset_queueLaw_cueLaw.1, reset_queueLaw_cueLaw.2, reset_noticeLaw, reset_clockLaw, reset_poolLaw, reset_tagLaw,
    reset_recordLaw, reset_offLaw, reset_voiceLaw, reset_trackingLaw, reset_linkLaw, reset_chordLaw, reset_renderLaw,
    reset_portLaw⟩

/-! ### Notice records (R175, R177) -/

/-- A raise keeps the notice records' law: the count goes up, to 255 at most, and the kind is pending. -/
theorem State.raise_noticeLaw {s : State} (h : NoticeLaw s) (k : NoticeKind) (x : Nat) : NoticeLaw (s.raise k x) := by
  exact forall_set (P := fun _ (n : Notice) => n.count ≤ 255 ∧ (0 < n.count ↔ n.pending = true))
    ⟨Nat.min_le_left _ _, iff_of_true (lt_min (Nat.zero_lt_succ 254) (Nat.succ_pos _)) rfl⟩ fun j _ => h j

/-! ### Ramps (R156, R161) -/

theorem ramp_part_le (d : Nat) {j : Nat} (hj : j ≤ 256) : d * j / 256 ≤ d :=
  Nat.div_le_of_le_mul (Nat.mul_comm 256 d ▸ Nat.mul_le_mul_left d hj)

/-- A ramp that rises by `d`. -/
theorem rampAt_rise (a d j : Nat) : rampAt a (a + d) j = a + d * j / 256 := by
  rw [rampAt, Int.natCast_add, Int.add_comm (a : Int) d, Int.add_sub_cancel, ← Int.natCast_mul]
  rfl

/-- A ramp that falls by `d`. -/
theorem rampAt_fall (b d j : Nat) : rampAt (b + d) b j = b + d - d * j / 256 := by
  rw [rampAt, ← Int.neg_sub, Int.natCast_add, Int.add_comm (b : Int) d, Int.add_sub_cancel, Int.neg_mul, Int.neg_tdiv,
    ← Int.natCast_mul, ← Int.natCast_add, Nat.add_comm b d]
  exact Int.toNat_sub (d + b) (d * j / 256)

/-- A ramp never leaves the range between its ends. -/
theorem rampAt_between (a b : Nat) {j : Nat} (hj : j ≤ 256) : min a b ≤ rampAt a b j ∧ rampAt a b j ≤ max a b := by
  obtain hle | hle := Nat.le_total a b <;> obtain ⟨d, rfl⟩ := Nat.exists_eq_add_of_le hle
  · rw [rampAt_rise]
    exact ⟨(min_le_left _ _).trans (Nat.le_add_right _ _),
      (Nat.add_le_add_left (ramp_part_le d hj) a).trans (le_max_right _ _)⟩
  · rw [rampAt_fall]
    exact ⟨(min_le_right _ _).trans (Nat.le_sub_of_add_le (Nat.add_le_add_left (ramp_part_le d hj) b)),
      (Nat.sub_le _ _).trans (le_max_left _ _)⟩

theorem rampAt_le {a b j n : Nat} (ha : a ≤ n) (hb : b ≤ n) (hj : j ≤ 256) : rampAt a b j ≤ n :=
  (rampAt_between a b hj).2.trans (max_le ha hb)

theorem rampAt_ratioLegal {a b j : Nat} (ha : RatioLegal a) (hb : RatioLegal b) (hj : j ≤ 256) : RatioLegal (rampAt a b j) :=
  ⟨(le_min ha.1 hb.1).trans (rampAt_between a b hj).1, rampAt_le ha.2 hb.2 hj⟩

theorem setRampTarget_legal {r : Ramp} (h : RampLegal r) {target : Nat} (ht : target ≤ 4096) :
    RampLegal (setRampTarget r target) := by
  obtain ⟨hstart, htarget, hposition⟩ := h
  exact iteInduction (motive := RampLegal) (fun _ => ⟨hstart, htarget, hposition⟩) fun _ =>
    ⟨rampAt_le hstart htarget hposition, ht, Nat.zero_le _⟩

theorem advanceRamp_legal {r : Ramp} (h : RampLegal r) : RampLegal (advanceRamp r) :=
  ⟨h.1, h.2.1, Nat.min_le_left _ _⟩

/-- A mixer's law (R161). -/
abbrev MixerLegal (m : Mixer) : Prop := RampLegal m.dry ∧ RampLegal m.bypass

theorem advanceMixer_legal {m : Mixer} (h : MixerLegal m) : MixerLegal (advanceMixer m) :=
  ⟨advanceRamp_legal h.1, advanceRamp_legal h.2⟩

theorem retarget_legal {m : Mixer} (h : MixerLegal m) {l : LaneSettings} (hdry : l.dry ≤ 4096) :
    MixerLegal (retarget m l) :=
  ⟨setRampTarget_legal h.1 (iteInduction (motive := (· ≤ 4096)) (fun _ => hdry) fun _ => Nat.zero_le _),
    setRampTarget_legal h.2 (iteInduction (motive := (· ≤ 4096)) (fun _ => le_rfl) fun _ => Nat.zero_le _)⟩

theorem softResetMixer_legal {m : Mixer} (h : MixerLegal m) : MixerLegal (softResetMixer m) :=
  ⟨h.1, setRampTarget_legal h.2 (Nat.zero_le _)⟩

theorem zero_mixerLegal : MixerLegal { dry := .zero, bypass := .zero } := by
  unfold MixerLegal
  decide

/-! ### Render channels (R156 to R159) -/

/-- At the end of a fade to 0 a channel has no gain. -/
theorem channelGain_of_faded {c : Channel} (hend : c.endGain = 0) (hposition : c.position = 256) : channelGain c = 0 := by
  rw [channelGain, hend, hposition, rampAt_end]

theorem advanceChannel_of (clock : ClockState) (x : Sample) {c : Channel} {st : ChannelState} :
    c.state = st → advanceChannel clock x c = match st with
      | .silent => c
      | .playing => if clock = .present then makeSample x c else c
      | .cutting => endFade (makeSample x c) := by
  rintro rfl
  rfl

section
variable {c : Channel} (h : ChannelLegal c)
include h

theorem channelGain_le : channelGain c ≤ 4096 := by
  obtain ⟨⟨hstart, hend, _⟩, _, _, hposition, _⟩ := h
  exact rampAt_le hstart hend hposition

theorem channelRatio_legal : RatioLegal (channelRatio c) := by
  obtain ⟨_, ⟨hstart, hend, _⟩, _, hposition, _⟩ := h
  exact rampAt_ratioLegal hstart hend hposition

theorem channelPan_le : channelPan c ≤ 127 := by
  obtain ⟨_, _, ⟨hstart, hend, _⟩, hposition, _⟩ := h
  exact rampAt_le hstart hend hposition

theorem cutChannel_legal : ChannelLegal (cutChannel c) := by
  have hgain := channelGain_le h
  have hratio := channelRatio_legal h
  have hpan := channelPan_le h
  obtain ⟨_, ⟨_, _, hnext⟩, ⟨_, _, hnextPan⟩, _⟩ := h
  exact ⟨⟨hgain, Nat.zero_le _, Nat.zero_le _⟩, ⟨hratio, hratio, hnext⟩, ⟨hpan, hpan, hnextPan⟩, Nat.zero_le _,
    ChannelState.noConfusion, fun _ => ⟨rfl, Nat.zero_lt_succ 255⟩⟩

theorem endFade_makeSample_legal (hcutting : c.state = .cutting) (x : Sample) : ChannelLegal (endFade (makeSample x c)) := by
  obtain ⟨hgains, hratios, hpans, hposition, _, hcut⟩ := h
  obtain ⟨hend, _⟩ := hcut hcutting
  exact iteInduction (motive := ChannelLegal)
    (fun hlast => ⟨hgains, hratios, hpans, Nat.min_le_left _ _, fun _ => ⟨hend, channelGain_of_faded hend hlast, rfl, rfl⟩,
      ChannelState.noConfusion⟩)
    fun hlast => ⟨hgains, hratios, hpans, Nat.min_le_left _ _, fun hs => absurd (hcutting.symm.trans hs) (by decide),
      fun _ => ⟨hend, lt_of_le_of_ne (Nat.min_le_left _ _) hlast⟩⟩

theorem advanceChannel_legal (clock : ClockState) (x : Sample) : ChannelLegal (advanceChannel clock x c) := by
  generalize hstate : c.state = st
  have hnext := advanceChannel_of clock x hstate
  induction st with
  | silent => exact hnext ▸ h
  | playing =>
    refine hnext ▸ iteInduction (motive := ChannelLegal) (fun _ => ?_) fun _ => h
    obtain ⟨hgains, hratios, hpans, _⟩ := h
    exact ⟨hgains, hratios, hpans, Nat.min_le_left _ _, fun hs => absurd (hstate.symm.trans hs) (by decide),
      fun hs => absurd (hstate.symm.trans hs) (by decide)⟩
  | cutting => exact hnext ▸ endFade_makeSample_legal h hstate x

theorem startRamp_legal : ChannelLegal (startRamp c) := by
  obtain ⟨⟨_, hend, hnext⟩, ⟨_, hendRatio, hnextRatio⟩, ⟨_, hendPan, hnextPan⟩, _⟩ := id h
  have legal {p : Prop} [Decidable p] {u v : Channel} := iteInduction (c := p) (t := u) (e := v) (motive := ChannelLegal)
  exact legal (fun _ => h) fun _ => legal
    (fun hzero => ⟨⟨hend, hnext, hnext⟩, ⟨hendRatio, hnextRatio, hnextRatio⟩, ⟨hendPan, hnextPan, hnextPan⟩, Nat.zero_le _,
      fun _ => ⟨hzero.2, (rampAt_start _ _).trans hzero.1, rfl, rfl⟩, ChannelState.noConfusion⟩)
    fun _ => ⟨⟨hend, hnext, hnext⟩, ⟨hendRatio, hnextRatio, hnextRatio⟩, ⟨hendPan, hnextPan, hnextPan⟩, Nat.zero_le _,
      ChannelState.noConfusion, ChannelState.noConfusion⟩

theorem silenceChannel_legal : ChannelLegal (silenceChannel c) := by
  obtain ⟨_, hratios, hpans, _⟩ := h
  exact ⟨⟨Nat.zero_le _, Nat.zero_le _, Nat.zero_le _⟩, hratios, hpans, Nat.zero_le _,
    fun _ => ⟨rfl, rampAt_start _ _, rfl, rfl⟩, ChannelState.noConfusion⟩

theorem noNextGain_legal : ChannelLegal { c with nextGain := 0 } := by
  obtain ⟨⟨hstart, hend, _⟩, hrest⟩ := h
  exact ⟨⟨hstart, hend, Nat.zero_le _⟩, hrest⟩

theorem softResetChannel_legal : ChannelLegal (softResetChannel c) := by
  exact iteInduction (motive := ChannelLegal) (fun _ => noNextGain_legal h) fun _ => cutChannel_legal h

/-- A voice in its ranges hands over next values in theirs (R157). -/
theorem handOver_legal {v : Voice} (hvalues : ValuesLegal v) (hpan : v.template.pan ≤ 127) : ChannelLegal (handOver v c) := by
  obtain ⟨hlevel, _, _, hratio⟩ := hvalues
  obtain ⟨⟨hstart, hend, _⟩, ⟨hstartRatio, hendRatio, _⟩, ⟨hstartPan, hendPan, _⟩, hrest⟩ := h
  exact ⟨⟨hstart, hend, iteInduction (motive := (· ≤ 4096)) (fun _ => Nat.zero_le _) fun _ => hlevel⟩,
    ⟨hstartRatio, hendRatio, hratio⟩, ⟨hstartPan, hendPan, hpan⟩, hrest⟩

end

theorem advanceChannel_nextGain (clock : ClockState) (x : Sample) (c : Channel) :
    (advanceChannel clock x c).nextGain = c.nextGain := by
  generalize hstate : c.state = st
  have hnext := advanceChannel_of clock x hstate
  induction st with
  | silent => exact congrArg _ hnext
  | playing => exact (congrArg _ hnext).trans ((apply_ite Channel.nextGain _ _ _).trans (ite_self _))
  | cutting => exact (congrArg _ hnext).trans ((apply_ite Channel.nextGain _ _ _).trans (ite_self _))

theorem startRamp_nextGain (c : Channel) : (startRamp c).nextGain = c.nextGain := by
  exact (apply_ite Channel.nextGain _ _ _).trans (ite_eq_left_iff.2 fun _ => (apply_ite Channel.nextGain _ _ _).trans (ite_self _))

theorem softResetChannel_nextGain (c : Channel) : (softResetChannel c).nextGain = 0 := by
  exact (apply_ite Channel.nextGain _ _ _).trans (ite_self _)

end Sys2Proof.Machine
end

section
/-! PROOF. The acts on voices, pool and channels, a period on the audio side, and the resets, as acts that keep every law. -/

namespace Sys2Proof.Machine

variable {s₀ s : State}

/-! ### A voice that stays the same voice -/

/-- A record that an act has changed holds the same voice: it is present as before, is PENDING only if it was, carries its tag on
its lane, and keeps its ranges where the record law held at the step's start. -/
structure SameVoice (s₀ : State) (v w : Voice) : Prop where
  free : w.state = .free ↔ v.state = .free
  pending : w.state = .pending → v.state = .pending
  lane : w.template.lane = v.template.lane
  tag : w.template.tag = v.template.tag
  template : RecordLaw s₀ → TemplateLegal v.template → TemplateLegal w.template
  values : (v.state ≠ .free → TemplateLegal v.template) → ValuesLegal v → ValuesLegal w

theorem SameVoice.refl (s₀ : State) (v : Voice) : SameVoice s₀ v v := ⟨.rfl, id, rfl, rfl, fun _ => id, fun _ => id⟩

/-- The same voice, and RELEASING exactly if it was. -/
abbrev VoiceKept (s₀ : State) (v w : Voice) : Prop := SameVoice s₀ v w ∧ (w.state = .releasing ↔ v.state = .releasing)

theorem VoiceKept.refl (s₀ : State) (v : Voice) : VoiceKept s₀ v v := ⟨.refl s₀ v, .rfl⟩

/-- A voice changed in its working values alone. -/
theorem VoiceKept.of_values {v w : Voice} (hstate : w.state = v.state) (htemplate : w.template = v.template)
    (values : (v.state ≠ .free → TemplateLegal v.template) → ValuesLegal v → ValuesLegal w) : VoiceKept s₀ v w :=
  ⟨⟨iff_of_eq (congrArg (· = _) hstate), fun h => hstate.symm.trans h, congrArg _ htemplate, congrArg _ htemplate,
    fun _ h => htemplate ▸ h, values⟩, iff_of_eq (congrArg (· = _) hstate)⟩

/-- Tag uniqueness, by the holders of a tag. -/
theorem tagLaw_iff (s : State) :
    TagLaw s ↔ ∀ (k : LaneId) (tag : Nat) (i j : Slot), HoldsTag s k tag i → HoldsTag s k tag j → i = j := by
  constructor
  · rintro h k tag i j ⟨hi, hlane, htag⟩ ⟨hj, hlane', htag'⟩
    by_contra hne
    exact h i j hne hi hj (hlane.trans hlane'.symm) (htag.trans htag'.symm)
  · intro h i j hne hi hj hlane htag
    exact hne (h _ _ i j ⟨hi, rfl, rfl⟩ ⟨hj, hlane.symm, htag.symm⟩)

/-- Tags stay unique where every holder of a tag held it before. -/
theorem tagLaw_of_holders {s u : State} (h : TagLaw s)
    (holders : ∀ (k : LaneId) (tag : Nat) (i : Slot), HoldsTag u k tag i → HoldsTag s k tag i) : TagLaw u :=
  (tagLaw_iff u).2 fun k tag i j hi hj => (tagLaw_iff s).1 h k tag i j (holders k tag i hi) (holders k tag j hj)

/-- The stored templates, judged anew. -/
theorem recordLaw_of_voices {u : State} (h : RecordLaw s) (vs : Vector Voice 16) (hu : RecordLaw u ↔ RecordLaw { s with voices := vs })
    (hvoices : ∀ i : Slot, vs[i].state ≠ .free → TemplateLegal vs[i].template) : RecordLaw u := by
  exact hu.2 (h.imp_right (.imp_right (.imp_right (.imp_right (.imp_right fun _ => hvoices)))))

/-- Voices that act, are modified, released or captured (R51, R57, R65, R67). -/
theorem Keeps.voicesReleased (h : Keeps s₀ s) (vs : Vector Voice 16) (rl : List Slot)
    (same : ∀ i : Slot, SameVoice s₀ s.voices[i] vs[i])
    (released : PoolLaw s → rl.Nodup ∧ ∀ i : Slot, i ∈ rl ↔ vs[i].state = .releasing) :
    Keeps s₀ { s with voices := vs, releaseList := rl } :=
  { h with
    poolLaw := fun hpool =>
      ⟨(h.poolLaw hpool).1, fun i => ((h.poolLaw hpool).2.1 i).trans (not_congr (same i).free).symm, released (h.poolLaw hpool)⟩
    tagLaw := fun htag => tagLaw_of_holders (h.tagLaw htag) fun k tag i hi =>
      ⟨fun hfree => hi.1 ((same i).free.2 hfree), (same i).lane.symm.trans hi.2.1, (same i).tag.symm.trans hi.2.2⟩
    recordLaw := fun hrec => recordLaw_of_voices (h.recordLaw hrec) vs .rfl fun i hi =>
      (same i).template hrec ((h.recordLaw hrec).template i fun hfree => hi ((same i).free.2 hfree))
    voiceLaw := fun hrec hv i => (same i).values ((h.recordLaw hrec).template i) (h.voiceLaw hrec hv i)
    offLaw := fun hpool hrec hoff i hi => (congrArg (fun k : LaneId => s.lanes[k].settings.on) (same i).lane).trans
      (h.offLaw hpool hrec hoff i fun hfree => hi ((same i).free.2 hfree))
    renderLaw := fun hrec hv hr =>
      ⟨(h.renderLaw hrec hv hr).1,
        fun i hi => (h.renderLaw hrec hv hr).2.1 i (hi.imp (same i).free.1 (same i).pending), (h.renderLaw hrec hv hr).2.2⟩ }

theorem Keeps.voices (h : Keeps s₀ s) (vs : Vector Voice 16) (kept : ∀ i : Slot, VoiceKept s₀ s.voices[i] vs[i]) :
    Keeps s₀ { s with voices := vs } :=
  h.voicesReleased vs s.releaseList (fun i => (kept i).1) fun hpool =>
    ⟨hpool.2.2.1, fun i => (hpool.2.2.2 i).trans (kept i).2.symm⟩

/-- A property of one record and of every other record as it was holds of every record. -/
theorem forall_setVoice {P : Slot → Voice → Prop} {i : Slot} {v : Voice} (hi : P i v) (hrest : ∀ j, i ≠ j → P j s.voices[j])
    (j : Slot) : P j (s.setVoice i v).voices[j] := forall_set hi hrest j

/-- One record changed, the same voice. -/
theorem Keeps.setVoice (h : Keeps s₀ s) (i : Slot) (v : Voice) (kept : VoiceKept s₀ s.voices[i] v) : Keeps s₀ (s.setVoice i v) :=
  h.voices _ (forall_setVoice (P := fun j w => VoiceKept s₀ s.voices[j] w) kept fun j _ => .refl s₀ _)

theorem present_of_acts {v : Voice} (h : actsAtResults v.state = true) : v.state ≠ .free ∧ v.state ≠ .pending := by
  simpa [actsAtResults] using h

/-- A voice is released (R67). -/
theorem Keeps.release (h : Keeps s₀ s) (i : Slot) (acts : actsAtResults s.voices[i].state = true)
    (held : s.voices[i].state ≠ .releasing) :
    Keeps s₀ { s.setVoice i { s.voices[i] with state := .releasing, levelTarget := 0 } with
      releaseList := s.releaseList ++ [i] } := by
  obtain ⟨hfree, _⟩ := present_of_acts acts
  refine h.voicesReleased _ _ (forall_setVoice (P := fun j w => SameVoice s₀ s.voices[j] w)
    ⟨iff_of_false VoiceState.noConfusion hfree, VoiceState.noConfusion, rfl, rfl, fun _ => id, fun _ hv => ⟨hv.1, Nat.zero_le _, hv.2.2⟩⟩
    fun j _ => .refl s₀ _) fun hpool => ⟨?_, ?_⟩
  · refine List.nodup_append.2 ⟨hpool.2.2.1, List.nodup_singleton i, fun a ha b hb => ?_⟩
    obtain rfl := List.mem_singleton.1 hb
    rintro rfl
    exact held ((hpool.2.2.2 a).1 ha)
  · refine forall_setVoice (P := fun j w => j ∈ s.releaseList ++ [i] ↔ w.state = .releasing)
      (iff_of_true (List.mem_append_right _ (List.mem_singleton_self i)) rfl) fun j hne => ?_
    refine List.mem_append.trans ((or_iff_left ?_).trans (hpool.2.2.2 j))
    exact fun hj => hne (List.mem_singleton.1 hj).symm

/-! ### Channels -/

/-- One channel changed. -/
theorem Keeps.setChannel (h : Keeps s₀ s) (i : Slot) (c : Channel)
    (legal : RecordLaw s → VoiceLaw s → RenderLaw s → ChannelLegal c)
    (quiet : s.voices[i].state = .free ∨ s.voices[i].state = .pending → s.channels[i].nextGain = 0 → c.nextGain = 0) :
    Keeps s₀ (s.setChannel i c) :=
  h.channels _ (fun hrec hv hr => forall_set (P := fun _ => ChannelLegal) (legal hrec hv hr) fun j _ => hr.1 j)
    (forall_set (P := fun j (x : Channel) => s.voices[j].state = .free ∨ s.voices[j].state = .pending → s.channels[j].nextGain = 0 →
      x.nextGain = 0) quiet fun _ _ _ => id)

/-- An acting voice and what it hands its channel (R51, R157). -/
theorem Keeps.voiceActs (h : Keeps s₀ s) (i : Slot) (v : Voice) (acts : actsAtResults s.voices[i].state = true)
    (kept : VoiceKept s₀ s.voices[i] v) : Keeps s₀ ((s.setVoice i v).setChannel i (handOver v s.channels[i])) := by
  obtain ⟨hfree, hpending⟩ := present_of_acts acts
  have hv : (s.setVoice i v).voices[i] = v := (State.setVoice_get s i i v).trans (if_pos rfl)
  have hpresent : ¬(v.state = .free ∨ v.state = .pending) := fun hi => hi.elim (fun hf => hfree (kept.1.free.1 hf)) fun hp =>
    hpending (kept.1.pending hp)
  refine (h.setVoice i v kept).setChannel i _ (fun hrec hvoice hr => ?_) fun hi => absurd (hv ▸ hi) hpresent
  have hpan (w : Voice) (hw : w = v) (htemplate : w.state ≠ .free → TemplateLegal w.template) : v.template.pan ≤ 127 :=
    hw ▸ (htemplate fun hf => hpresent (.inl (hw ▸ hf))).pan
  exact handOver_legal (hr.1 i) (hv ▸ (voiceLaw_iff _).1 hvoice i) (hpan _ hv (hrec.template i))

/-! ### Freeing and allocation (R46, R56, R59, R76, R80, R81) -/

theorem freeSlot_valuesLegal (g : Fin 16) : ValuesLegal (.freeSlot g) := by simp [ValuesLegal, RatioLegal, Voice.freeSlot]

/-- A property of a FREE record and of every other record as it was holds of every record. -/
theorem forall_freeVoice {P : Slot → Voice → Prop} {i : Slot} (hi : P i (.freeSlot s.voices[i].generation))
    (hrest : ∀ j, i ≠ j → P j s.voices[j]) (j : Slot) : P j (s.freeVoice i).voices[j] :=
  forall_setVoice hi hrest j

theorem freeVoice_poolLaw (h : PoolLaw s) (i : Slot) : PoolLaw (s.freeVoice i) := by
  obtain ⟨hage, hpresent, hrelease, hreleasing⟩ := h
  have mem (l : List Slot) (j : Slot) : j ∈ l.filter (· ≠ i) ↔ j ∈ l ∧ j ≠ i := by
    rw [List.mem_filter, decide_eq_true_iff]
  refine ⟨hage.filter _, forall_freeVoice (P := fun j w => j ∈ s.ageList.filter (· ≠ i) ↔ w.state ≠ .free) ?_ fun j hne => ?_,
    hrelease.filter _, forall_freeVoice (P := fun j w => j ∈ s.releaseList.filter (· ≠ i) ↔ w.state = .releasing) ?_ fun j hne => ?_⟩
  · exact iff_of_false (fun hi => ((mem _ _).1 hi).2 rfl) fun hne => hne rfl
  · exact (mem _ _).trans ((and_iff_left hne.symm).trans (hpresent j))
  · exact iff_of_false (fun hi => ((mem _ _).1 hi).2 rfl) VoiceState.noConfusion
  · exact (mem _ _).trans ((and_iff_left hne.symm).trans (hreleasing j))

/-- A slot is freed; its channel is left without a next gain. -/
theorem Keeps.free (h : Keeps s₀ s) (i : Slot) (c : Channel) (legal : RenderLaw s → c.nextGain = 0 ∧ ChannelLegal c) :
    Keeps s₀ ((s.freeVoice i).setChannel i c) :=
  { h with
    poolLaw := fun hpool => freeVoice_poolLaw (h.poolLaw hpool) i
    tagLaw := fun htag => tagLaw_of_holders (h.tagLaw htag) fun k tag =>
      forall_freeVoice (P := fun j w => w.state ≠ .free ∧ w.template.lane = k ∧ w.template.tag = tag → HoldsTag s k tag j)
        (fun hi => absurd rfl hi.1) fun _ _ => id
    recordLaw := fun hrec => recordLaw_of_voices (h.recordLaw hrec) _ .rfl
      (forall_freeVoice (P := fun _ w => w.state ≠ .free → TemplateLegal w.template) (fun hi => absurd rfl hi)
        fun j _ => (h.recordLaw hrec).template j)
    voiceLaw := fun hrec hv => forall_freeVoice (P := fun _ w => ValuesLegal w) (freeSlot_valuesLegal _) fun j _ =>
      h.voiceLaw hrec hv j
    offLaw := fun hpool hrec hoff =>
      forall_freeVoice (P := fun _ w => w.state ≠ .free → s.lanes[w.template.lane].settings.on = true)
        (fun hi => absurd rfl hi) fun j _ => h.offLaw hpool hrec hoff j
    renderLaw := fun hrec hv hr => by
      obtain ⟨hzero, hc⟩ := legal (h.renderLaw hrec hv hr)
      obtain ⟨hchannels, hnext, hrest⟩ := h.renderLaw hrec hv hr
      refine ⟨forall_set (P := fun _ => ChannelLegal) hc fun j _ => hchannels j, forall_set (P := fun j (x : Channel) =>
        (s.freeVoice i).voices[j].state = .free ∨ (s.freeVoice i).voices[j].state = .pending → x.nextGain = 0) (fun _ => hzero)
        fun j hne hj => hnext j ?_, hrest⟩
      rwa [State.freeVoice_get, if_neg hne] at hj }

/-- A slot after an allocation. -/
theorem State.allocate_get (s : State) (i j : Slot) (o : Owner) (t : Template) : (s.allocate i o t).voices[j] =
    if i = j then { Voice.freeSlot (s.voices[i].generation + 1) with template := t, state := .pending, owner := o }
    else s.voices[j] :=
  State.setVoice_get s i j _

/-- The holders of a tag after an allocation. -/
theorem holdsTag_allocate (s : State) (i : Slot) (o : Owner) (t : Template) (k : LaneId) (tag : Nat) (j : Slot) :
    HoldsTag (s.allocate i o t) k tag j → (i = j ∧ t.lane = k ∧ t.tag = tag) ∨ HoldsTag s k tag j :=
  forall_setVoice (P := fun j w => w.state ≠ .free ∧ w.template.lane = k ∧ w.template.tag = tag →
    (i = j ∧ t.lane = k ∧ t.tag = tag) ∨ HoldsTag s k tag j) (fun hi => .inl ⟨rfl, hi.2⟩) (fun _ _ hj => .inr hj) j

/-- A voice is created in a FREE slot, on an ON lane, with a tag that no voice of the lane holds. -/
theorem Keeps.allocate (h : Keeps s₀ s) (i : Slot) (o : Owner) (t : Template) (free : s.voices[i].state = .free)
    (unused : TagLaw s₀ → ∀ j : Slot, ¬HoldsTag s t.lane t.tag j)
    (legal : RecordLaw s₀ → TemplateLegal t ∧ s.lanes[t.lane].settings.on = true) : Keeps s₀ (s.allocate i o t) :=
  { h with
    poolLaw := fun hpool => by
      obtain ⟨hage, hpresent, hrelease, hreleasing⟩ := h.poolLaw hpool
      refine ⟨List.nodup_append.2 ⟨hage, List.nodup_singleton i, fun a ha b hb => ?_⟩,
        forall_setVoice (P := fun j w => j ∈ s.ageList ++ [i] ↔ w.state ≠ .free) ?_ fun j hne => ?_, hrelease,
        forall_setVoice (P := fun j w => j ∈ s.releaseList ↔ w.state = .releasing) ?_ fun j _ => hreleasing j⟩
      · obtain rfl := List.mem_singleton.1 hb
        rintro rfl
        exact (hpresent a).1 ha free
      · exact iff_of_true (List.mem_append_right _ (List.mem_singleton_self i)) VoiceState.noConfusion
      · exact List.mem_append.trans ((or_iff_left fun hj => hne (List.mem_singleton.1 hj).symm).trans (hpresent j))
      · exact iff_of_false (fun hi => absurd (((hreleasing i).1 hi).symm.trans free) (by decide)) VoiceState.noConfusion
    tagLaw := fun htag => by
      refine (tagLaw_iff _).2 fun k tag j j' hj hj' => ?_
      obtain ⟨rfl, rfl, rfl⟩ | hj := holdsTag_allocate s i o t k tag j hj
      · exact (holdsTag_allocate s i o t _ _ j' hj').elim And.left fun hj' => absurd hj' (unused htag j')
      · refine (holdsTag_allocate s i o t k tag j' hj').elim (fun ⟨_, hlane, htag'⟩ => ?_)
          ((tagLaw_iff s).1 (h.tagLaw htag) k tag j j' hj)
        exact absurd (hlane ▸ htag' ▸ hj) (unused htag j)
    recordLaw := fun hrec => recordLaw_of_voices (h.recordLaw hrec) _ .rfl
      (forall_setVoice (P := fun _ w => w.state ≠ .free → TemplateLegal w.template) (fun _ => (legal hrec).1)
        fun j _ => (h.recordLaw hrec).template j)
    voiceLaw := fun hrec hv => forall_setVoice (P := fun _ w => ValuesLegal w) (freeSlot_valuesLegal 0) fun j _ =>
      h.voiceLaw hrec hv j
    offLaw := fun hpool hrec hoff =>
      forall_setVoice (P := fun _ w => w.state ≠ .free → s.lanes[w.template.lane].settings.on = true)
        (fun _ => (legal hrec).2) fun j _ => h.offLaw hpool hrec hoff j
    renderLaw := fun hrec hv hr => by
      obtain ⟨hchannels, hnext, hrest⟩ := h.renderLaw hrec hv hr
      exact ⟨hchannels, forall_setVoice (P := fun j w => w.state = .free ∨ w.state = .pending → s.channels[j].nextGain = 0)
        (fun _ => hnext i (.inl free)) fun j _ => hnext j, hrest⟩ }

/-! ### A word-clock period (R155) -/

theorem getElem_samplePeriod_channels (s : State) (i : Slot) : s.samplePeriod.channels[i] =
    advanceChannel s.clock.state (delayedInput s.audio s.channels[i].lane) s.channels[i] :=
  Vector.getElem_map ..

theorem getElem_samplePeriod_mixers (s : State) (k : LaneId) : s.samplePeriod.mixers[k] = advanceMixer s.mixers[k] :=
  Vector.getElem_map ..

theorem lane_cases : ∀ k : LaneId, k = 0 ∨ k = 1 ∨ k = 2 ∨ k = 3 := by decide

/-- One more sample on every delay line (R155). -/
theorem getElem_samplePeriod_delay (s : State) (k : LaneId) :
    s.samplePeriod.audio.delay[k] = feedLine s.audio.delay[k] k s.sampleNo := by
  obtain rfl | rfl | rfl | rfl := lane_cases k
  all_goals rfl

theorem samplePeriod_renderLaw (h : RenderLaw s) : RenderLaw s.samplePeriod := by
  obtain ⟨hchannels, hnext, hmixers, hdelay⟩ := h
  refine ⟨fun i => getElem_samplePeriod_channels s i ▸ advanceChannel_legal (hchannels i) _ _,
    fun i hi => (congrArg Channel.nextGain (getElem_samplePeriod_channels s i)).trans ((advanceChannel_nextGain _ _ _).trans (hnext i hi)),
    fun k => getElem_samplePeriod_mixers s k ▸ advanceMixer_legal (hmixers k), fun k => ?_⟩
  rw [getElem_samplePeriod_delay, feedLine, List.length_append, List.length_drop, hdelay k]
  rfl

theorem Keeps.samplePeriod (h : Keeps s₀ s) : Keeps s₀ s.samplePeriod :=
  h.render _ _ _ _ fun _ _ _ hr => samplePeriod_renderLaw hr

/-! ### Resets (R172 to R174) -/

/-- The tracking state of a lane without a pitch. -/
theorem pitchless_tracking : ∀ on : Bool, ((if on then Tracking.search else .off) = .off ↔ on = false) ∧
    ¬((if on then Tracking.search else .off) = .hold ∨ (if on then Tracking.search else .off) = .reacquire) ∧
    ¬pitchValid (if on then .search else .off) = true := by
  decide

/-- A lane without a pitch, in OFF mode or in SEARCH, keeps its law with its runs and counts in range. -/
theorem TrackingLegal.of_pitchless {l : Lane} (htracking : l.tracking = if l.settings.on then .search else .off)
    (hcounts : l.confirmCount ≤ 8 ∧ l.octaveLength ≤ 15 ∧ l.counter ≤ 255 ∧ l.resultCount ≤ 65535 ∧ l.correctionCount ≤ 65535) :
    TrackingLegal l := by
  obtain ⟨hconfirm, hoctave, hcounter, hresults, hcorrections⟩ := hcounts
  obtain ⟨hmode, hheld, hvalid⟩ := pitchless_tracking l.settings.on
  rw [← htracking] at hmode hheld hvalid
  exact ⟨hmode, hconfirm, hoctave, hcounter, hresults, hcorrections, fun h => absurd h hheld, fun h => absurd h hvalid⟩

theorem softResetLane_legal (l : Lane) : TrackingLegal (softResetLane l) :=
  .of_pitchless rfl ⟨Nat.zero_le _, Nat.zero_le _, Nat.zero_le _, Nat.zero_le _, Nat.zero_le _⟩

/-- A table after a soft reset, entry by entry. -/
theorem forall_map {α β : Type} {n : Nat} {v : Vector α n} {f : α → β} {P : β → Prop} (h : ∀ i : Fin n, P (f v[i])) (i : Fin n) :
    P (v.map f)[i] := by
  simpa using h i

theorem Keeps.softReset (h : Keeps s₀ s) : Keeps s₀ s.softReset :=
  have free : ∀ i : Slot, s.softReset.voices[i].state = .free := forall_map (P := fun v : Voice => v.state = .free) fun _ => rfl
  { queueLaw_cueLaw := fun hq =>
      ⟨⟨Nat.zero_le _, Bool.noConfusion⟩, (h.queueLaw_cueLaw hq).2.1, Nat.zero_le _, fun _ => rfl, Bool.noConfusion, Bool.noConfusion⟩
    noticeLaw := fun _ => State.raise_noticeLaw (s := { s with notices := s.notices.map softResetNotice })
      (forall_map (P := fun n : Notice => n.count ≤ 255 ∧ (0 < n.count ↔ n.pending = true))
        fun k => ⟨Nat.zero_le _, iff_of_false (Nat.lt_irrefl 0) Bool.false_ne_true⟩) _ _
    clockLaw := fun hc => ⟨(h.clockLaw hc).1, (h.clockLaw hc).2.1, Nat.zero_le _, (h.clockLaw hc).2.2.2⟩
    portLaw := fun hp hmade => ⟨(h.portLaw hp hmade).1, rfl, rfl⟩
    poolLaw := fun _ => ⟨List.nodup_nil, fun i => iff_of_false List.not_mem_nil fun hi => hi (free i),
      List.nodup_nil, fun i => iff_of_false List.not_mem_nil fun hi => VoiceState.noConfusion ((free i).symm.trans hi)⟩
    tagLaw := fun _ i _ _ hi => absurd (free i) hi
    recordLaw := fun hrec => (h.recordLaw hrec).imp_right fun hrest =>
      ⟨hrest.1.imp_right fun _ => (Nat.eq_zero_or_pos _).symm.imp_right fun hz => ⟨hz, rfl⟩, fun _ he => absurd he List.not_mem_nil,
        hrest.2.2.imp_right fun hrest => ⟨forall_map (P := fun l : Lane => CharsLegal l.chars ∧ l.settings.dry ≤ 4096) hrest.1,
          fun i hi => absurd (free i) hi⟩⟩
    voiceLaw := fun _ _ => forall_map (P := ValuesLegal) fun _ => freeSlot_valuesLegal _
    offLaw := fun _ _ _ i hi => absurd (free i) hi
    trackingLaw := fun _ _ => forall_map (P := TrackingLegal) fun k => softResetLane_legal s.lanes[k]
    linkLaw := fun _ => ⟨reset_linkLaw.1, reset_linkLaw.2.1, rfl, rfl, fun _ => rfl, Bool.noConfusion,
      fun _ => reset_linkLaw.2.2.2.2.2.2.1 rfl, reset_linkLaw.2.2.2.2.2.2.2⟩
    chordLaw := fun _ _ => ⟨Nat.zero_le _, List.nodup_nil, fun _ he => absurd he List.not_mem_nil, fun _ _ he => absurd he List.not_mem_nil⟩
    renderLaw := fun hrec hv hr => (h.renderLaw hrec hv hr).imp
      (fun hchannels => forall_map (P := ChannelLegal) fun i => softResetChannel_legal (hchannels i)) fun hrest =>
        ⟨fun i _ => forall_map (P := fun c : Channel => c.nextGain = 0) (fun _ => softResetChannel_nextGain _) i,
          hrest.2.imp_left fun hmixers => forall_map (P := MixerLegal) fun k => softResetMixer_legal (hmixers k)⟩ }

theorem Keeps.hardReset (s₀ s : State) (cause : ResetCause) (closed : Vector Bool 4) : Keeps s₀ (s.hardReset cause closed) where
  queueLaw_cueLaw _ := reset_queueLaw_cueLaw
  noticeLaw _ := State.raise_noticeLaw (by decide : NoticeLaw { State.reset with notices := Notice.resetAll }) _ _
  clockLaw _ := reset_clockLaw
  portLaw _ := reset_portLaw
  poolLaw _ := reset_poolLaw
  tagLaw _ := reset_tagLaw
  recordLaw _ := reset_recordLaw
  voiceLaw _ _ := reset_voiceLaw
  offLaw _ _ _ := reset_offLaw
  trackingLaw _ _ := reset_trackingLaw
  linkLaw _ := reset_linkLaw
  chordLaw _ _ := reset_chordLaw
  renderLaw _ _ _ := reset_renderLaw

theorem Keeps.holdReset (h : Keeps s₀ s) (hold : Hold) (lasts : hold ≠ .running) : Keeps s₀ (s.holdReset hold) :=
  { h with
    linkLaw := fun hl => by
      exact imp_seventh (fun _ hr => absurd hr (Bool.not_eq_false _ ▸ decide_eq_true lasts)) (h.linkLaw hl) }

end Sys2Proof.Machine
end

section
/-! PROOF. The shared operations and the entries of the change queue keep every law. -/

namespace Sys2Proof.Machine

variable {s₀ s : State}

/-! ### Notices and voices -/

theorem Keeps.raise (h : Keeps s₀ s) (k : NoticeKind) (x : Nat) : Keeps s₀ (s.raise k x) :=
  h.notices _ fun hn => State.raise_noticeLaw hn k x

theorem Keeps.raiseFreed (h : Keeps s₀ s) (slots : List Slot) : Keeps s₀ (s.raiseFreed slots) := by
  induction slots with
  | nil => exact h
  | cons i rest =>
    induction rest with
    | nil => exact h.raise _ _
    | cons => exact Keeps.foldl (fun _ _ _ ht => ht.raise _ _) (h.choiceNo _)

theorem State.setChannel_self (s : State) (i : Slot) : s.setChannel i s.channels[i] = s :=
  congrArg (fun cs => { s with channels := cs }) (Vector.set_getElem_self _)

/-- A slot whose channel has no next gain is freed. -/
theorem Keeps.freeQuiet (h : Keeps s₀ s) (i : Slot) (quiet : RenderLaw s → s.channels[i].nextGain = 0) :
    Keeps s₀ (s.freeVoice i) := by
  have := h.free i s.channels[i] fun hr => ⟨quiet hr, hr.1 i⟩
  rwa [← State.freeVoice_channels s i, State.setChannel_self] at this

/-- A slot is freed and its channel cut. -/
theorem Keeps.freeCut (h : Keeps s₀ s) (i : Slot) : Keeps s₀ ((s.freeVoice i).cut i) :=
  h.free i _ fun hr => ⟨rfl, cutChannel_legal (hr.1 i)⟩

theorem Keeps.kill (h : Keeps s₀ s) (i : Slot) : Keeps s₀ (s.kill i) := (h.freeCut i).raise _ _

theorem Keeps.steal (h : Keeps s₀ s) (i : Slot) : Keeps s₀ (s.steal i) := (h.freeCut i).raise _ _

/-- A voice on its way into RELEASING (R67). -/
noncomputable def State.toReleasing (s : State) (i : Slot) : State :=
  { s.setVoice i { s.voices[i] with state := .releasing, levelTarget := 0 } with releaseList := s.releaseList ++ [i] }

theorem State.releaseVoice_of (s : State) (i : Slot) {state : VoiceState} :
    s.voices[i].state = state → s.releaseVoice i = match state with
      | .free => s
      | .pending => (s.freeVoice i).raise .voiceFreed i
      | .acquiring => s.toReleasing i
      | .active => s.toReleasing i
      | .holding => s.toReleasing i
      | .releasing => s := by
  rintro rfl
  rfl

/-- What holds of each thing that a release can do holds of what it does (R67): nothing, the freeing of a PENDING voice, or the
voice's way into RELEASING. -/
theorem State.releaseVoice_cases {i : Slot} {P : State → Prop}
    (stays : s.voices[i].state = .free ∨ s.voices[i].state = .releasing → P s)
    (freed : s.voices[i].state = .pending → P ((s.freeVoice i).raise .voiceFreed i))
    (released : actsAtResults s.voices[i].state = true ∧ s.voices[i].state ≠ .releasing → P (s.toReleasing i)) :
    P (s.releaseVoice i) := by
  generalize hstate : s.voices[i].state = state at stays freed released
  rw [s.releaseVoice_of i hstate]
  induction state with
  | free => exact stays (.inl rfl)
  | pending => exact freed rfl
  | releasing => exact stays (.inr rfl)
  | acquiring | active | holding => exact released ⟨rfl, VoiceState.noConfusion⟩

/-- A state without what the pool's acts touch. -/
noncomputable def State.unpooled (s : State) : State :=
  { s with voices := State.reset.voices, channels := State.reset.channels, ageList := [], releaseList := [], notices := State.reset.notices }

theorem State.releaseVoice_unpooled (s : State) (i : Slot) : (s.releaseVoice i).unpooled = s.unpooled :=
  releaseVoice_cases (P := fun t => t.unpooled = s.unpooled) (fun _ => rfl) (fun _ => rfl) fun _ => rfl

theorem Keeps.releaseVoice (h : Keeps s₀ s) (i : Slot) : Keeps s₀ (s.releaseVoice i) :=
  State.releaseVoice_cases (fun _ => h) (fun hpending => (h.freeQuiet i fun hr => hr.2.1 i (.inr hpending)).raise _ _)
    fun hacts => h.release i hacts.1 hacts.2

theorem Keeps.retire (h : Keeps s₀ s) (mode : RetireMode) (i : Slot) : Keeps s₀ (s.retire mode i) := by
  induction mode with
  | release => exact h.releaseVoice i
  | kill => exact .either (fun _ => h) fun _ => h.kill i

theorem voiceKept_activated (t : Tracking) {v : Voice} (hpending : v.state = .pending) : VoiceKept s₀ v (activated t v) := by
  have started (w : Voice) (hacts : actsAtResults w.state = true ∧ w.state ≠ .releasing) (htemplate : w.template = v.template)
      (hvalues : ValuesLegal v → ValuesLegal w) : VoiceKept s₀ v w :=
    ⟨⟨iff_of_false (present_of_acts hacts.1).1 (ne_of_eq_of_ne hpending (by decide)), fun h => absurd h (present_of_acts hacts.1).2,
      congrArg _ htemplate, congrArg _ htemplate, fun _ h => htemplate ▸ h, fun _ => hvalues⟩,
      iff_of_false hacts.2 (ne_of_eq_of_ne hpending (by decide))⟩
  induction t with
  | locked | hold | search | reacquire | off => exact started _ ⟨rfl, VoiceState.noConfusion⟩ rfl id

theorem Keeps.activate (h : Keeps s₀ s) (i : Slot) : Keeps s₀ (s.activate i) := by
  exact .either (fun hpending => h.setVoice i _ (voiceKept_activated _ hpending)) fun _ => h

/-- The arbiter gives the lowest FREE slot, or steals one (R78, R79). -/
theorem obtainSlot_some {i : Slot} {u : State} (h : obtainSlot s = some (i, u)) :
    (s.voices[i].state = .free ∧ u = s) ∨ victim s = some i ∧ u = s.steal i := by
  have answered {j : Slot} {t : State} (heq : obtainSlot s = some (j, t)) : j = i ∧ t = u :=
    Prod.mk.inj (Option.some.inj (heq.symm.trans h))
  refine (obtainSlot_cases s).imp (Exists.elim · fun j hj => ?_) (Or.elim · (Exists.elim · fun j hj => ?_) fun hnone => ?_)
  · exact ⟨(answered hj.2).1 ▸ lowestFree_spec hj.1, (answered hj.2).2.symm⟩
  · obtain ⟨rfl, hstate⟩ := answered hj.2.2
    exact ⟨hj.2.1, hstate.symm⟩
  · exact absurd (h.symm.trans hnone.2.2) (Option.some_ne_none _)

/-- The arbiter's slot is FREE, and a steal leaves no more tags in use than there were (R78 to R80). -/
theorem obtainSlot_free {i : Slot} {u : State} (h : obtainSlot s = some (i, u)) :
    u.voices[i].state = .free ∧ u.lanes = s.lanes ∧ u.queue = s.queue ∧ u.cue = s.cue ∧
      ∀ (k : LaneId) (tag : Nat) (j : Slot), HoldsTag u k tag j → HoldsTag s k tag j := by
  obtain ⟨hfree, rfl⟩ | ⟨-, rfl⟩ := obtainSlot_some h
  · exact ⟨hfree, rfl, rfl, rfl, fun _ _ _ => id⟩
  · exact ⟨congrArg Voice.state ((State.freeVoice_get s i i).trans (if_pos rfl)), rfl, rfl, rfl, fun k tag =>
      forall_freeVoice (P := fun j w => w.state ≠ .free ∧ w.template.lane = k ∧ w.template.tag = tag → HoldsTag s k tag j)
        (fun hi => absurd rfl hi.1) fun _ _ => id⟩

theorem Keeps.obtainSlot (h : Keeps s₀ s) {i : Slot} {u : State} (hu : obtainSlot s = some (i, u)) : Keeps s₀ u := by
  obtain ⟨_, rfl⟩ | ⟨-, rfl⟩ := obtainSlot_some hu
  · exact h
  · exact h.steal i

/-! ### LANE_SETTINGS entries (R2, R57, R58, R100, R161) -/

/-- A record after slots are freed: FREE in a slot that was freed, else as it was. -/
theorem State.foldl_free_get {f : State → Slot → State} (hf : ∀ s i, (f s i).voices = (s.freeVoice i).voices) (l : List Slot)
    (s : State) (j : Slot) :
    (l.foldl f s).voices[j] = if j ∈ l then .freeSlot s.voices[j].generation else s.voices[j] :=
  foldl_at (.inr fun _ _ => rfl) (g := fun s j => s.voices[j]) (F := fun _ v => .freeSlot v.generation)
    (fun s i j => (congrArg (fun vs : Vector Voice 16 => vs[j]) (hf s i)).trans (s.freeVoice_get i j)) s j

theorem State.foldl_kill_get (l : List Slot) (s : State) (j : Slot) : (l.foldl State.kill s).voices[j] =
    if j ∈ l then .freeSlot s.voices[j].generation else s.voices[j] := State.foldl_free_get (f := State.kill) (fun _ _ => rfl) l s j

theorem Keeps.killLane (h : Keeps s₀ s) (k : LaneId) : Keeps s₀ (s.killLane k) := Keeps.foldl (fun _ i _ ht => ht.kill i) h

/-- No voice is left on a lane whose voices are killed. -/
theorem killLane_free (hpool : PoolLaw s) (k : LaneId) (i : Slot) (hlane : (s.killLane k).voices[i].template.lane = k) :
    (s.killLane k).voices[i].state = .free := by
  rw [State.killLane, State.foldl_kill_get] at hlane ⊢
  split at hlane
  case isTrue hmem => rw [if_pos hmem]; rfl
  case isFalse hmem =>
    rw [if_neg hmem]
    by_contra hpresent
    exact hmem (List.mem_filter.2 ⟨(hpool.2.1 i).2 hpresent, by simpa using hlane⟩)

/-- The lane after a LANE_SETTINGS change: its mode's transition, and the settings stored (R2, R100). -/
noncomputable def settledLane (l : Lane) (st : LaneSettings) : Lane := { applyMode l st.on with settings := st }

theorem State.setLane_killLane (s : State) (k j : LaneId) (l : Lane) :
    (s.setLane j l).killLane k = (s.killLane k).setLane j l := by
  unfold State.killLane State.agedWhere
  exact List.foldl_hom (fun t : State => t.setLane j l) fun _ _ => rfl

/-- Kills touch the voices with their lists, the channels and the notices. -/
theorem State.foldl_kill_frame (l : List Slot) (s : State) : l.foldl State.kill s = { s with
    voices := (l.foldl State.kill s).voices, ageList := (l.foldl State.kill s).ageList,
    releaseList := (l.foldl State.kill s).releaseList, channels := (l.foldl State.kill s).channels,
    notices := (l.foldl State.kill s).notices } := by
  induction l generalizing s with
  | nil => rfl
  | cons i l ih => exact ih (s.kill i)

/-- The state after the kills that a LANE_SETTINGS change makes: none, unless an ON lane goes OFF (R2). -/
noncomputable def State.offKills (s : State) (k : LaneId) (on : Bool) : State :=
  if s.lanes[k].settings.on && !on then s.killLane k else s

theorem State.offKills_frame (s : State) (k : LaneId) (on : Bool) : s.offKills k on = { s with
    voices := (s.offKills k on).voices, ageList := (s.offKills k on).ageList, releaseList := (s.offKills k on).releaseList,
    channels := (s.offKills k on).channels, notices := (s.offKills k on).notices } := by
  exact iteInduction (motive := fun t : State => t = { s with
    voices := t.voices, ageList := t.ageList, releaseList := t.releaseList, channels := t.channels, notices := t.notices })
    (fun _ => State.foldl_kill_frame _ s) fun _ => rfl

theorem State.storeSettings_setLane (u : State) (k : LaneId) (l : Lane) (st : LaneSettings) :
    (u.setLane k l).storeSettings k st = (u.setLane k { l with settings := st }).setMixer k (retarget u.mixers[k] st) :=
  congrArg (fun ls => { u with lanes := ls, mixers := u.mixers.set k (retarget u.mixers[k] st) }) <|
    (Vector.set_set ..).trans (congrArg (fun l : Lane => u.lanes.set k { l with settings := st }) (Vector.getElem_set_self _))

/-- A LANE_SETTINGS entry applied: the kills, then the lane and its mixer's targets at once, then the freeze (R100). -/
theorem State.applySettings_eq (s : State) (k : LaneId) (st : LaneSettings) : s.applySettings k st =
    (((s.offKills k st.on).setLane k (settledLane s.lanes[k] st)).setMixer k
      (retarget (s.offKills k st.on).mixers[k] st)).freezeChange k s.lanes[k].settings.freeze st.freeze := by
  have hkills : (if s.lanes[k].settings.on && !st.on then (s.setLane k (applyMode s.lanes[k] st.on)).killLane k
      else s.setLane k (applyMode s.lanes[k] st.on)) = (s.offKills k st.on).setLane k (applyMode s.lanes[k] st.on) := by
    exact (ite_congr rfl (fun _ => State.setLane_killLane s k k _) fun _ => rfl).trans
      (apply_ite (fun t : State => t.setLane k (applyMode s.lanes[k] st.on)) _ _ _).symm
  exact congrArg (State.freezeChange · k s.lanes[k].settings.freeze st.freeze)
    ((congrArg (State.storeSettings · k st) hkills).trans (State.storeSettings_setLane ..))

theorem searchLane_trackingLegal {l : Lane} (h : TrackingLegal l) (hon : l.settings.on = true) :
    TrackingLegal (searchLane l) := by
  exact .of_pitchless (if_pos hon).symm ⟨Nat.zero_le _, Nat.zero_le _, Nat.zero_le _, h.tallies⟩

/-- The tracking law of a lane whose settings change but for its mode. -/
theorem TrackingLegal.settings {l : Lane} (h : TrackingLegal l) (st : LaneSettings) (hon : l.settings.on = st.on) :
    TrackingLegal { l with settings := st } :=
  ⟨hon ▸ h.1, h.2⟩

/-- A lane whose mode changes: nothing in flight, no pitch (R2). -/
noncomputable def turnedLane (l : Lane) (st : LaneSettings) : Lane :=
  { l with settings := st, tracking := if st.on then .search else .off, p := 0, n := 0, d := 0, candidate := none
           confirmCount := 0, octaveLength := 0, octaveDirection := .up, counter := 0 }

theorem settledLane_eq (l : Lane) (st : LaneSettings) :
    settledLane l st = if l.settings.on = st.on then { l with settings := st } else turnedLane l st := by
  by_cases h : l.settings.on = st.on
  · have hsame (on : Bool) (hon : l.settings.on = on) : applyMode l on = l := by
      unfold applyMode
      rw [hon]
      cases on <;> rfl
    exact (congrArg (fun m : Lane => { m with settings := st }) (hsame _ h)).trans (if_pos h).symm
  · have hturns (on : Bool) (hon : l.settings.on = !on) :
        applyMode l on = { turnedLane l { l.settings with on := on } with settings := { l.settings with on := on } } := by
      unfold applyMode
      rw [hon]
      cases on <;> rfl
    exact (congrArg (fun m : Lane => { m with settings := st }) (hturns _ (Bool.eq_not.2 h))).trans (if_neg h).symm

theorem settledLane_trackingLegal {l : Lane} (h : TrackingLegal l) (st : LaneSettings) :
    TrackingLegal (settledLane l st) := by
  exact (settledLane_eq l st).symm ▸ iteInduction (motive := TrackingLegal) (h.settings st) fun _ =>
    .of_pitchless (l := turnedLane l st) rfl ⟨Nat.zero_le _, Nat.zero_le _, Nat.zero_le _, h.tallies⟩

theorem settledLane_chars (l : Lane) (st : LaneSettings) : (settledLane l st).chars = l.chars :=
  (congrArg Lane.chars (settledLane_eq l st)).trans ((apply_ite Lane.chars ..).trans (ite_self _))

theorem voiceKept_captureFrozen (v : Voice) : VoiceKept s₀ v (captureFrozen v) := by
  exact iteInduction (motive := VoiceKept s₀ v) (fun _ => .of_values rfl rfl fun _ => id) fun _ => .refl s₀ v

theorem Keeps.mapLaneVoices (h : Keeps s₀ s) (k : LaneId) (g : Voice → Voice) (kept : ∀ v, VoiceKept s₀ v (g v)) :
    Keeps s₀ (s.mapLaneVoices k g) := by
  refine h.voices _ fun i => ?_
  exact (Vector.getElem_map _ i.isLt).symm ▸ iteInduction (motive := VoiceKept s₀ s.voices[i]) (fun _ => kept _) fun _ => .refl s₀ _

theorem Keeps.freezeChange (h : Keeps s₀ s) (k : LaneId) (before after : Bool) : Keeps s₀ (s.freezeChange k before after) := by
  exact .either (fun _ => h.mapLaneVoices k _ voiceKept_captureFrozen) fun _ =>
    .either (fun _ => h.mapLaneVoices k _ fun v => .of_values rfl rfl fun _ => id) fun _ => h

theorem Keeps.offKills (h : Keeps s₀ s) (k : LaneId) (on : Bool) : Keeps s₀ (s.offKills k on) := by
  exact .either (fun _ => h.killLane k) fun _ => h

/-- Where an ON lane goes OFF, its voices are gone (R2). -/
theorem offKills_free (hpool : PoolLaw s) (k : LaneId) {on : Bool} (hon : s.lanes[k].settings.on = true) (hoff : on = false)
    (i : Slot) (hlane : (s.offKills k on).voices[i].template.lane = k) : (s.offKills k on).voices[i].state = .free := by
  rw [State.offKills, hon, hoff] at *
  exact killLane_free hpool k i hlane

theorem Keeps.applySettings (h : Keeps s₀ s) (k : LaneId) (st : LaneSettings) (hdry : RecordLaw s₀ → st.dry ≤ 4096) :
    Keeps s₀ (s.applySettings k st) := by
  rw [State.applySettings_eq]
  have hlanes : (s.offKills k st.on).lanes = s.lanes := (congrArg State.lanes (s.offKills_frame k st.on) :)
  have hlane : Keeps s₀ ((s.offKills k st.on).setLane k (settledLane s.lanes[k] st)) := by
    rw [← hlanes]
    exact (h.offKills k st.on).lane k _ (fun hr hrec => ⟨(settledLane_chars ..).symm ▸ (hrec.lane k).1, hdry hr⟩)
      (fun _ htrack => settledLane_trackingLegal htrack st) fun hpool hoff hon i hi =>
        offKills_free (h.poolLaw hpool) k (hlanes ▸ hon) hoff i hi
  refine Keeps.freezeChange (hlane.mixers _ fun hr _ hrender j => ?_) _ _ _
  rw [← State.setMixer_mixers, State.setMixer_get]
  split
  · exact retarget_legal (hrender.2.2.1 k) (hdry hr)
  · exact hrender.2.2.1 j

/-! ### Entries (R65, R97, R98) -/

theorem both_of_decides {p q : Prop} [Decidable p] [Decidable q] (hpq : (decide p && decide q) = true) : p ∧ q :=
  ⟨of_decide_eq_true (Bool.and_eq_true_iff.1 hpq).1, of_decide_eq_true (Bool.and_eq_true_iff.1 hpq).2⟩

theorem modifyTemplate_legal {t : Template} (h : TemplateLegal t) {m : Modification} (hm : modificationLegal m = true) :
    TemplateLegal (modifyTemplate t m) := by
  obtain ⟨htag, fromRule⟩ := id h
  obtain ⟨hrule, fromFallback⟩ := id fromRule
  obtain ⟨hfallback, fromFollow⟩ := id fromFallback
  obtain ⟨hfollow, fromDetune⟩ := id fromFollow
  obtain ⟨hdetune, fromRange⟩ := id fromDetune
  obtain ⟨hrange, fromGlide⟩ := id fromRange
  obtain ⟨hglide, hlevel, hpan, hattack, hrelease⟩ := id fromGlide
  induction m with
  | rule kind z => exact ⟨htag, hm, fromFallback⟩
  | fallback z => exact ⟨htag, hrule, both_of_decides hm, fromFollow⟩
  | follow x => exact ⟨htag, hrule, hfallback, of_decide_eq_true hm, fromDetune⟩
  | detune z => exact ⟨htag, hrule, hfallback, hfollow, both_of_decides hm, fromRange⟩
  | range lo hi =>
    obtain ⟨hlow, hhigh⟩ := Bool.and_eq_true_iff.1 hm
    obtain ⟨hlow, hwide⟩ := both_of_decides hlow
    exact ⟨htag, hrule, hfallback, hfollow, hdetune, ⟨hlow, hwide, of_decide_eq_true hhigh⟩, fromGlide⟩
  | glide x => exact ⟨htag, hrule, hfallback, hfollow, hdetune, hrange, of_decide_eq_true hm, hlevel, hpan, hattack, hrelease⟩
  | level x => exact ⟨htag, hrule, hfallback, hfollow, hdetune, hrange, hglide, of_decide_eq_true hm, hpan, hattack, hrelease⟩
  | pan x => exact ⟨htag, hrule, hfallback, hfollow, hdetune, hrange, hglide, hlevel, of_decide_eq_true hm, hattack, hrelease⟩
  | group _ => exact h
  | attack x => exact ⟨htag, hrule, hfallback, hfollow, hdetune, hrange, hglide, hlevel, hpan, both_of_decides hm, hrelease⟩
  | release x => exact ⟨htag, hrule, hfallback, hfollow, hdetune, hrange, hglide, hlevel, hpan, hattack, both_of_decides hm⟩

/-- A modification touches neither the lane nor the tag (R65). -/
theorem modifyTemplate_lane_tag (t : Template) (m : Modification) :
    (modifyTemplate t m).lane = t.lane ∧ (modifyTemplate t m).tag = t.tag := by
  cases m <;> exact ⟨rfl, rfl⟩

/-- A voice's field written (R65). -/
noncomputable def State.written (s : State) (i : Slot) (m : Modification) : State :=
  s.setVoice i { s.voices[i] with template := modifyTemplate s.voices[i].template m }

theorem State.applyModify_of (s : State) (i : Slot) (m : Modification) {state : VoiceState} :
    s.voices[i].state = state → s.applyModify i m = match m, state with
      | .level _, .releasing => s
      | m, _ => s.written i m := by
  rintro rfl
  rfl

/-- A level is not written into a RELEASING voice; everything else is written (R65). -/
theorem State.applyModify_cases (s : State) (i : Slot) (m : Modification) :
    s.applyModify i m = s ∨ s.applyModify i m = s.written i m := by
  generalize hstate : s.voices[i].state = state
  rw [s.applyModify_of i m hstate]
  induction m with
  | level v =>
    induction state with
    | releasing => exact .inl rfl
    | free | pending | acquiring | active | holding => exact .inr rfl
  | rule | fallback | follow | detune | range | glide | pan | group | attack | release => exact .inr rfl

theorem Keeps.applyModify (h : Keeps s₀ s) (i : Slot) (m : Modification)
    (hm : RecordLaw s₀ → modificationLegal m = true) : Keeps s₀ (s.applyModify i m) := by
  obtain ⟨hlane, htag⟩ := modifyTemplate_lane_tag s.voices[i].template m
  have hset : Keeps s₀ (s.written i m) :=
    h.setVoice i _ ⟨⟨.rfl, id, hlane, htag, fun hr ht => modifyTemplate_legal ht (hm hr), fun _ => id⟩, .rfl⟩
  exact (State.applyModify_cases s i m).elim (fun heq => heq.symm ▸ h) fun heq => heq.symm ▸ hset

end Sys2Proof.Machine
end

section
/-! PROOF. The take and the application of the whole queue, which keep every law (R96 to R98, R115 to R119). -/

namespace Sys2Proof.Machine

variable {s₀ s : State}

/-! ### The lanes of a take (R116) -/

theorem State.freezeChange_frame (s : State) (k : LaneId) (before after : Bool) :
    s.freezeChange k before after = { s with voices := (s.freezeChange k before after).voices } := by
  have framed {p : Prop} [Decidable p] {t u : State} :=
    iteInduction (c := p) (t := t) (e := u) (motive := fun t => t = { s with voices := t.voices })
  exact framed (fun _ => rfl) fun _ => framed (fun _ => rfl) fun _ => rfl

/-- The lanes after a LANE_SETTINGS change (R2, R100). -/
theorem State.applySettings_get (s : State) (k j : LaneId) (st : LaneSettings) :
    (s.applySettings k st).lanes[j] = if k = j then settledLane s.lanes[j] st else s.lanes[j] := by
  have hkill : (s.offKills k st.on).lanes = s.lanes := (congrArg State.lanes (s.offKills_frame k st.on) :)
  rw [State.applySettings_eq, State.freezeChange_frame]
  refine ((State.setLane_get _ k j _).trans ?_).trans (congrArg (fun ls : Vector Lane 4 => if k = j then settledLane s.lanes[j] st else ls[j]) hkill)
  exact ite_congr rfl (fun h => h ▸ rfl) fun _ => rfl

/-- What a take sends to a lane: freeze off (R116). -/
noncomputable def takenSettings (l : SceneLane) : LaneSettings := { on := l.on, bypass := l.bypass, freeze := false, dry := l.dry }

theorem State.takeLanes_get (s : State) (lanes : Vector SceneLane 4) (k : LaneId) :
    (s.takeLanes lanes).lanes[k] = settledLane s.lanes[k] (takenSettings lanes[k]) :=
  (foldl_at (.inl (List.nodup_finRange 4)) (g := fun s j => s.lanes[j]) (F := fun j l => settledLane l (takenSettings lanes[j]))
    (fun s i j => (s.applySettings_get i j _).trans (ite_congr rfl (fun hij => congrArg (settledLane _ <| takenSettings lanes[·]) hij)
      fun _ => rfl)) s k).trans (if_pos (List.mem_finRange k))

theorem Keeps.takeLanes (h : Keeps s₀ s) (lanes : Vector SceneLane 4)
    (hdry : RecordLaw s₀ → ∀ k : LaneId, lanes[k].dry ≤ 4096) : Keeps s₀ (s.takeLanes lanes) :=
  Keeps.foldl (fun _ k _ ht => ht.applySettings k _ fun hr => hdry hr k) h

/-! ### The templates of a take (R49, R83) -/

theorem clearTag_of {t : Template} {o : Option Slot} : tagHolder s t.lane t.tag = o → clearTag s t = match o with
    | none => some s
    | some i => if s.voices[i].state = .releasing then some (s.kill i) else none := by
  rintro rfl
  rfl

/-- Everything the tag check of a template does: nothing, or the kill of a RELEASING holder (R49). -/
theorem clearTag_cases {t : Template} {u : State} (h : clearTag s t = some u) :
    (tagHolder s t.lane t.tag = none ∧ u = s) ∨
      ∃ i, tagHolder s t.lane t.tag = some i ∧ s.voices[i].state = .releasing ∧ u = s.kill i := by
  generalize hholder : tagHolder s t.lane t.tag = o
  induction o with
  | none => exact .inl ⟨rfl, (Option.some.inj ((clearTag_of hholder).symm.trans h)).symm⟩
  | some i =>
    obtain ⟨hreleasing, hkill⟩ := Option.ite_none_right_eq_some.1 ((clearTag_of hholder).symm.trans h)
    exact .inr ⟨i, rfl, hreleasing, (Option.some.inj hkill).symm⟩

/-- After the tag check of a template no voice holds its tag on its lane, where tags are unique (R48, R49). -/
theorem clearTag_unused {t : Template} {u : State} (h : clearTag s t = some u) (htags : TagLaw s) (j : Slot) :
    ¬HoldsTag u t.lane t.tag j := by
  obtain ⟨hnone, rfl⟩ | ⟨i, hsome, -, rfl⟩ := clearTag_cases h
  · exact tagHolder_eq_none_iff.1 hnone j
  · exact forall_freeVoice (P := fun _ w => ¬(w.state ≠ .free ∧ w.template.lane = t.lane ∧ w.template.tag = t.tag))
      (fun hi => hi.1 rfl)
      (fun j hne hj => hne ((tagLaw_iff s).1 htags _ _ i j (tagHolder_eq_some_iff.1 hsome).1 hj)) j

theorem clearTag_frame {t : Template} {u : State} (h : clearTag s t = some u) : u = s ∨ ∃ i, u = s.kill i :=
  (clearTag_cases h).imp And.right (Exists.imp fun _ hi => hi.2.2)

theorem Keeps.clearTag (h : Keeps s₀ s) {t : Template} {u : State} (hu : clearTag s t = some u) : Keeps s₀ u := by
  obtain rfl | ⟨i, rfl⟩ := clearTag_frame hu
  · exact h
  · exact h.kill i

section
variable {a : Placement} {t : Template} {u v : State} {i : Slot}

/-- What a template becomes once its tag is cleared. -/
noncomputable def afterClear (a : Placement) (t : Template) (u : State) : Placement :=
  match obtainSlot u with
  | none => { a with state := u, skipped := a.skipped + 1 }
  | some (i, v) => { a with state := v.allocate i .scene t, placed := a.placed ++ [i] }

theorem placeTemplate_of {o : Option State} : clearTag a.state t = o → placeTemplate a t = match o with
    | none => { a with skipped := a.skipped + 1 }
    | some u => afterClear a t u := by
  rintro rfl
  rfl

theorem afterClear_of {o : Option (Slot × State)} : obtainSlot u = o → afterClear a t u = match o with
    | none => { a with state := u, skipped := a.skipped + 1 }
    | some (i, v) => { a with state := v.allocate i .scene t, placed := a.placed ++ [i] } := by
  rintro rfl
  rfl

/-- A template whose tag a voice holds that is not RELEASING is skipped (R49). -/
theorem placeTemplate_held (hclear : clearTag a.state t = none) : placeTemplate a t = { a with skipped := a.skipped + 1 } :=
  placeTemplate_of hclear

/-- A template that finds no slot is skipped (R83). -/
theorem placeTemplate_full (hclear : clearTag a.state t = some u) (hslot : obtainSlot u = none) :
    placeTemplate a t = { a with state := u, skipped := a.skipped + 1 } :=
  (placeTemplate_of hclear).trans (afterClear_of hslot)

theorem placeTemplate_placed (hclear : clearTag a.state t = some u) (hslot : obtainSlot u = some (i, v)) :
    placeTemplate a t = { a with state := v.allocate i .scene t, placed := a.placed ++ [i] } :=
  (placeTemplate_of hclear).trans (afterClear_of hslot)

end

/-- What holds of each thing that a template of a take can do holds of what it does, whatever was placed and skipped before. -/
theorem placeTemplate_cases {t : Template} {P : (List Slot → Nat → Placement) → Prop}
    (held : clearTag s t = none → P fun placed skipped => ⟨s, placed, skipped + 1⟩)
    (full : ∀ u, clearTag s t = some u → obtainSlot u = none → P fun placed skipped => ⟨u, placed, skipped + 1⟩)
    (gets : ∀ u i v, clearTag s t = some u → obtainSlot u = some (i, v) →
      P fun placed skipped => ⟨v.allocate i .scene t, placed ++ [i], skipped⟩) :
    P fun placed skipped => placeTemplate ⟨s, placed, skipped⟩ t := by
  have does {f : List Slot → Nat → Placement} (hf : P f) (heq : ∀ placed skipped, placeTemplate ⟨s, placed, skipped⟩ t = f placed skipped) :
      P fun placed skipped => placeTemplate ⟨s, placed, skipped⟩ t := (funext fun placed => funext (heq placed)).symm ▸ hf
  generalize hclear : clearTag s t = o at *
  induction o with
  | none => exact does (held rfl) fun _ _ => placeTemplate_held hclear
  | some u =>
    generalize hslot : obtainSlot u = o
    induction o with
    | none => exact does (full u rfl hslot) fun _ _ => placeTemplate_full hclear hslot
    | some iv => exact does (gets u iv.1 iv.2 rfl hslot) fun _ _ => placeTemplate_placed hclear hslot

theorem lanes_of_unpooled {u : State} (h : u.unpooled = s.unpooled) : u.lanes = s.lanes := (congrArg State.lanes h :)

theorem clearTag_unpooled {t : Template} {u : State} (h : clearTag s t = some u) : u.unpooled = s.unpooled :=
  (clearTag_frame h).elim (congrArg State.unpooled) fun ⟨_, hu⟩ => (congrArg State.unpooled hu :)

theorem obtainSlot_unpooled {i : Slot} {u : State} (h : obtainSlot s = some (i, u)) : u.unpooled = s.unpooled :=
  (obtainSlot_some h).elim (fun hu => congrArg State.unpooled hu.2) fun hu => (congrArg State.unpooled hu.2 :)

/-- The state that a template of a take leaves. -/
noncomputable def placedState (s : State) (t : Template) : State := (placeTemplate ⟨s, [], 0⟩ t).state

theorem placedState_unpooled (s : State) (t : Template) : (placedState s t).unpooled = s.unpooled :=
  placeTemplate_cases (P := fun f => (f [] 0).state.unpooled = s.unpooled) (fun _ => rfl) (fun _ hclear _ => clearTag_unpooled hclear)
    fun _ _ _ hclear hslot => (obtainSlot_unpooled hslot).trans (clearTag_unpooled hclear)

theorem Keeps.placedState (h : Keeps s₀ s) (t : Template)
    (legal : RecordLaw s₀ → TemplateLegal t ∧ s.lanes[t.lane].settings.on = true) : Keeps s₀ (placedState s t) :=
  placeTemplate_cases (P := fun f => Keeps s₀ (f [] 0).state) (fun _ => h) (fun _ hclear _ => h.clearTag hclear) fun _ i _ hclear hslot =>
    ((h.clearTag hclear).obtainSlot hslot).allocate i _ t (obtainSlot_free hslot).1
      (fun htags j hj => clearTag_unused hclear (h.tagLaw htags) j ((obtainSlot_free hslot).2.2.2.2 _ _ j hj))
      fun hr => (lanes_of_unpooled ((obtainSlot_unpooled hslot).trans (clearTag_unpooled hclear))).symm ▸ legal hr

/-- Templates one after another keep the laws, where their lanes are ON. -/
theorem Keeps.foldl_placedState {l : List Template} (h : Keeps s₀ s)
    (legal : RecordLaw s₀ → ∀ t ∈ l, TemplateLegal t ∧ s.lanes[t.lane].settings.on = true) : Keeps s₀ (l.foldl Machine.placedState s) := by
  exact (List.foldlRecOn l Machine.placedState (motive := fun u => u.unpooled = s.unpooled ∧ Keeps s₀ u) ⟨rfl, h⟩ fun u hu t ht =>
    ⟨(placedState_unpooled u t).trans hu.1, hu.2.placedState t fun hr => (lanes_of_unpooled hu.1).symm ▸ legal hr t ht⟩).2

/-- What a template of a take places, after whatever was placed and skipped before. -/
noncomputable def placedSlot (s : State) (t : Template) : Option Slot := (placeTemplate ⟨s, [], 0⟩ t).placed.head?

theorem placeTemplate_eq (t : Template) (placed : List Slot) (skipped : Nat) : placeTemplate ⟨s, placed, skipped⟩ t =
    ⟨placedState s t, placed ++ [placedSlot s t].reduceOption, skipped + [placedSlot s t].count none⟩ :=
  placeTemplate_cases (P := fun f => f placed skipped =
      ⟨(f [] 0).state, placed ++ [(f [] 0).placed.head?].reduceOption, skipped + [(f [] 0).placed.head?].count none⟩)
    (fun _ => congrArg (Placement.mk s · _) (List.append_nil placed).symm)
    (fun u _ _ => congrArg (Placement.mk u · _) (List.append_nil placed).symm) fun _ _ _ _ _ => rfl

/-- The slots that templates get, one after another. -/
noncomputable def placedSlots (ts : List Template) : State → List (Option Slot) :=
  ts.foldr (fun t rest s => placedSlot s t :: rest (placedState s t)) fun _ => []

theorem foldl_placeTemplate (ts : List Template) (s : State) (placed : List Slot) (skipped : Nat) :
    ts.foldl placeTemplate ⟨s, placed, skipped⟩ =
      ⟨ts.foldl placedState s, placed ++ (placedSlots ts s).reduceOption, skipped + (placedSlots ts s).count none⟩ := by
  induction ts generalizing s placed skipped with
  | nil => exact congrArg (Placement.mk s · _) (List.append_nil placed).symm
  | cons t ts ih =>
    refine ((congrArg (ts.foldl placeTemplate) (placeTemplate_eq t placed skipped)).trans (ih _ _ _)).trans ?_
    rw [List.append_assoc, ← List.reduceOption_append, Nat.add_assoc, ← List.count_append]
    rfl

theorem Keeps.placeTemplates (h : Keeps s₀ s) (l : List Template)
    (legal : RecordLaw s₀ → ∀ t ∈ l, TemplateLegal t ∧ s.lanes[t.lane].settings.on = true) :
    Keeps s₀ (s.placeTemplates l) := by
  have hplaced : Keeps s₀ (l.foldl Machine.placeTemplate ⟨s, [], 0⟩).state := foldl_placeTemplate l s [] 0 ▸ h.foldl_placedState legal
  have hactive := Keeps.foldl (fun _ i _ ht => ht.activate i) hplaced (l := (l.foldl Machine.placeTemplate ⟨s, [], 0⟩).placed)
  exact .either (fun _ => hactive) fun _ => hactive.raise _ _

theorem State.retireOutgoing_unpooled (s : State) (mode : TakeMode) : (s.retireOutgoing mode).unpooled = s.unpooled :=
  foldl_unchanged State.releaseVoice_unpooled _ s

theorem State.retireOutgoing_lanes (s : State) (mode : TakeMode) : (s.retireOutgoing mode).lanes = s.lanes :=
  (congrArg State.lanes (s.retireOutgoing_unpooled mode) :)

/-- The key map and the lanes of a take (R116). -/
noncomputable def State.laned (s : State) (sc : Scene) : State := { s with keyMap := sc.keyMap }.takeLanes sc.lanes

theorem Keeps.laned (h : Keeps s₀ s) {sc : Scene} (legal : RecordLaw s₀ → SceneLegal sc) : Keeps s₀ (s.laned sc) :=
  (h.keyMap sc.keyMap fun hr => (legal hr).1).takeLanes sc.lanes fun hr => (legal hr).2.1

/-- A take before its templates: the key map, the lanes and the outgoing voices (R116, R117). -/
noncomputable def State.cleared (s : State) (sc : Scene) : State :=
  (s.laned sc).retireOutgoing sc.takeMode

theorem State.cleared_lane (s : State) (sc : Scene) (k : LaneId) :
    (s.cleared sc).lanes[k] = settledLane s.lanes[k] (takenSettings sc.lanes[k]) :=
  (congrArg (fun ls : Vector Lane 4 => ls[k]) (State.retireOutgoing_lanes _ _)).trans (State.takeLanes_get _ _ k)

/-- A LOADED scene taken (R116 to R119). -/
noncomputable def State.taken (s : State) (n : SceneId) (sc : Scene) : State :=
  { (s.cleared sc).placeTemplates sc.templates with currentScene := some n }.raise .sceneTaken n.val

theorem applyTake_of {n : SceneId} {o : Option Scene} : s.scenes[n] = o → s.applyTake n = match o with
    | none => s.raise .takeFailed n.val
    | some sc => s.taken n sc := by
  rintro rfl
  rfl

theorem Keeps.cleared (h : Keeps s₀ s) {sc : Scene} (legal : RecordLaw s₀ → SceneLegal sc) : Keeps s₀ (s.cleared sc) :=
  Keeps.foldl (fun _ i _ ht => ht.releaseVoice i) (h.laned legal)

theorem SceneLegal.templatesLegal {sc : Scene} (legal : SceneLegal sc) (s : State) :
    ∀ t ∈ sc.templates, TemplateLegal t ∧ (s.cleared sc).lanes[t.lane].settings.on = true := fun t ht =>
  (s.cleared_lane sc t.lane).symm ▸ legal.2.2.2.1 t ht

theorem Keeps.applyTake (h : Keeps s₀ s) (n : SceneId) : Keeps s₀ (s.applyTake n) := by
  generalize hscene : s.scenes[n] = o
  have htake := applyTake_of hscene
  induction o with
  | none => exact htake ▸ h.raise _ _
  | some sc =>
    have legal (hr : RecordLaw s₀) : SceneLegal sc := (h.recordLaw hr).scene n sc hscene
    exact htake ▸ (((h.cleared legal).placeTemplates sc.templates fun hr => (legal hr).templatesLegal s).currentScene (some n)).raise _ _

/-! ### Entries and the queue (R96 to R98) -/

theorem Keeps.applyEntry (h : Keeps s₀ s) (e : Entry) (legal : RecordLaw s₀ → entryLegal e = true) :
    Keeps s₀ (s.applyEntry e) := by
  induction e with
  | create hd => exact .either (fun _ => h.activate _) fun _ => h.raise _ _
  | modify hd m => exact .either (fun _ => h.applyModify _ m legal) fun _ => h.raise _ _
  | retire hd mode => exact .either (fun _ => h.retire mode _) fun _ => h.raise _ _
  | retireLane k mode filter => exact Keeps.foldl (fun _ i _ ht => ht.retire mode i) h
  | laneSettings k st => exact h.applySettings k st fun hr => of_decide_eq_true (legal hr)
  | keyMap k => exact h.keyMap k fun hr => of_decide_eq_true (legal hr)
  | take n => exact h.applyTake n

/-- A waiting head is to be tried again (R144). -/
theorem Keeps.headTriedAgain (h : Keeps s₀ s) : Keeps s₀ { s with link := { s.link with headWaits := false } } :=
  h.link _ (imp_sixth fun _ => Bool.noConfusion)

theorem Keeps.applyQueue (h : Keeps s₀ s) : Keeps s₀ s.applyQueue :=
  Keeps.foldl (fun _ e he ht => ht.applyEntry e fun hr => (h.recordLaw hr).queued e he) h.emptyQueue.headTriedAgain

end Sys2Proof.Machine
end

section
/-! PROOF. Word-clock periods: what one, and what a run of them, makes of the audio side (R155, R156, R159, R161, R164). -/

namespace Sys2Proof.Machine

/-! ### A channel in one period, by its state -/

section
variable {c : Channel} {clock : ClockState} {x : Sample}

theorem advanceChannel_silent (h : c.state = .silent) : advanceChannel clock x c = c := by
  rw [advanceChannel, h]

theorem advanceChannel_playing (h : c.state = .playing) :
    advanceChannel clock x c = if clock = .present then makeSample x c else c := by
  rw [advanceChannel, h]

theorem advanceChannel_cutting (h : c.state = .cutting) : advanceChannel clock x c = endFade (makeSample x c) := by
  rw [advanceChannel, h]

/-- A channel at a later place of its ramp, with what its shifter has made since. -/
noncomputable def Channel.at (c : Channel) (position phase : Nat) (y : Sample) : Channel :=
  { c with position := position, phase := phase, y := y }

theorem makeSample_eq (x : Sample) (c : Channel) :
    ∃ phase y, makeSample x c = c.at (min 256 (c.position + 1)) phase y := ⟨_, _, rfl⟩

/-- A fade goes on. -/
theorem advanceChannel_fades (h : c.state = .cutting) (hposition : c.position + 1 < 256) :
    ∃ phase y, advanceChannel clock x c = c.at (c.position + 1) phase y := by
  obtain ⟨phase, y, hmade⟩ := makeSample_eq x c
  rw [Nat.min_eq_right hposition.le] at hmade
  refine ⟨phase, y, ?_⟩
  rw [advanceChannel_cutting h, hmade]
  exact if_neg hposition.ne

/-- A fade makes its last sample. -/
theorem advanceChannel_faded (h : c.state = .cutting) (hposition : c.position + 1 = 256) :
    advanceChannel clock x c = { c with state := .silent, position := 256, phase := 0, y := 0 } := by
  obtain ⟨phase, y, hmade⟩ := makeSample_eq x c
  rw [hposition] at hmade
  rw [advanceChannel_cutting h, hmade]
  exact if_pos rfl

end

/-! ### One period -/

section
variable (s : State)

theorem samplePeriod_passes :
    PeriodPasses s.clock.state s s.samplePeriod.channels s.samplePeriod.mixers s.samplePeriod.audio := by
  refine ⟨fun i => ?_, fun k => ?_, fun k => ?_, fun hclock => ?_⟩
  · dsimp only
    rw [getElem_samplePeriod_channels]
    exact ⟨advanceChannel_silent, advanceChannel_playing, advanceChannel_cutting⟩
  · exact getElem_samplePeriod_mixers s k
  · exact getElem_samplePeriod_delay s k
  · exact if_neg hclock

end

/-! ### A run of periods -/

variable {s : State}

theorem samplePeriods_channel_still (n : Nat) {i : Slot}
    (h : s.channels[i].state = .silent ∨ s.channels[i].state = .playing ∧ s.clock.state ≠ .present) :
    (s.samplePeriods n).channels[i] = s.channels[i] := by
  induction n generalizing s with
  | zero => rfl
  | succ n ih =>
    have hone : s.samplePeriod.channels[i] = s.channels[i] := by
      rw [getElem_samplePeriod_channels]
      obtain hsilent | ⟨hplaying, hclock⟩ := h
      · exact advanceChannel_silent hsilent
      · rw [advanceChannel_playing hplaying, if_neg hclock]
    exact (ih (by rw [hone]; exact h)).trans hone

/-- A place on a ramp after one sample and `n` more. -/
theorem min_position (p n : Nat) : min 256 (min 256 (p + 1) + n) = min 256 (p + (n + 1)) := by
  rw [← Nat.add_min_add_right, ← Nat.min_assoc, Nat.min_eq_left (Nat.le_add_right 256 n), Nat.succ_add_eq_add_succ]

theorem samplePeriods_channel_plays (n : Nat) {i : Slot} (hplaying : s.channels[i].state = .playing)
    (hclock : s.clock.state = .present) (hposition : s.channels[i].position ≤ 256) : ∃ phase y,
    (s.samplePeriods n).channels[i] = s.channels[i].at (min 256 (s.channels[i].position + n)) phase y := by
  induction n generalizing s with
  | zero =>
    refine ⟨s.channels[i].phase, s.channels[i].y, ?_⟩
    rw [Nat.add_zero, Nat.min_eq_right hposition]
    rfl
  | succ n ih =>
    obtain ⟨phase, y, hmade⟩ := makeSample_eq (delayedInput s.audio s.channels[i].lane) s.channels[i]
    have hone : s.samplePeriod.channels[i] = s.channels[i].at (min 256 (s.channels[i].position + 1)) phase y :=
      ((getElem_samplePeriod_channels s i).trans (advanceChannel_playing hplaying)).trans ((if_pos hclock).trans hmade)
    obtain ⟨phase', y', hrest⟩ := ih (s := s.samplePeriod) (hone ▸ hplaying) hclock (hone ▸ Nat.min_le_left _ _)
    rw [hone] at hrest
    exact ⟨phase', y', hrest.trans (congrArg (s.channels[i].at · phase' y') (min_position _ n))⟩

theorem samplePeriods_channel_fades (n : Nat) {i : Slot} (hcutting : s.channels[i].state = .cutting)
    (hlast : s.channels[i].position + n < 256) : ∃ phase y,
    (s.samplePeriods n).channels[i] = s.channels[i].at (s.channels[i].position + n) phase y := by
  induction n generalizing s with
  | zero => exact ⟨s.channels[i].phase, s.channels[i].y, rfl⟩
  | succ n ih =>
    rw [← Nat.succ_add_eq_add_succ] at hlast
    obtain ⟨phase, y, hfades⟩ := advanceChannel_fades (clock := s.clock.state)
      (x := delayedInput s.audio s.channels[i].lane) hcutting ((Nat.le_add_right _ n).trans_lt hlast)
    have hone := (getElem_samplePeriod_channels s i).trans hfades
    obtain ⟨phase', y', hrest⟩ := ih (s := s.samplePeriod) (hone ▸ hcutting) (hone ▸ hlast)
    rw [hone] at hrest
    exact ⟨phase', y', hrest.trans (congrArg (s.channels[i].at · phase' y') (Nat.succ_add_eq_add_succ _ n))⟩

theorem samplePeriods_channel_faded (n : Nat) {i : Slot} (hcutting : s.channels[i].state = .cutting)
    (hposition : s.channels[i].position < 256) (hlast : 256 ≤ s.channels[i].position + n) :
    (s.samplePeriods n).channels[i] = { s.channels[i] with state := .silent, position := 256, phase := 0, y := 0 } := by
  induction n generalizing s with
  | zero => exact absurd hposition (Nat.not_lt.2 hlast)
  | succ n ih =>
    obtain hend | hmore := Nat.eq_or_lt_of_le (Nat.succ_le_of_lt hposition)
    · have hone := (getElem_samplePeriod_channels s i).trans (advanceChannel_faded hcutting hend)
      exact (samplePeriods_channel_still n (.inl (congrArg Channel.state hone))).trans hone
    · rw [← Nat.succ_add_eq_add_succ] at hlast
      obtain ⟨phase, y, hfades⟩ := advanceChannel_fades (clock := s.clock.state)
        (x := delayedInput s.audio s.channels[i].lane) hcutting hmore
      have hone := (getElem_samplePeriod_channels s i).trans hfades
      have hrest := ih (s := s.samplePeriod) (hone ▸ hcutting) (hone ▸ hmore) (hone ▸ hlast)
      rw [hone] at hrest
      exact hrest

/-- `n` further samples of a mixer gain's ramp. -/
noncomputable def Ramp.after (r : Ramp) (n : Nat) : Ramp := { r with position := min 256 (r.position + n) }

theorem Ramp.after_zero {r : Ramp} (h : r.position ≤ 256) : r.after 0 = r :=
  congrArg (Ramp.mk r.start r.target) (Nat.min_eq_right h)

theorem Ramp.after_succ (r : Ramp) (n : Nat) : (r.after 1).after n = r.after (n + 1) :=
  congrArg (Ramp.mk r.start r.target) (min_position r.position n)

theorem samplePeriods_mixer (n : Nat) {k : LaneId} (hdry : s.mixers[k].dry.position ≤ 256)
    (hbypass : s.mixers[k].bypass.position ≤ 256) :
    (s.samplePeriods n).mixers[k] = { dry := s.mixers[k].dry.after n, bypass := s.mixers[k].bypass.after n } := by
  induction n generalizing s with
  | zero =>
    rw [Ramp.after_zero hdry, Ramp.after_zero hbypass]
    rfl
  | succ n ih =>
    have hone := getElem_samplePeriod_mixers s k
    refine (ih (s := s.samplePeriod) (hone ▸ Nat.min_le_left _ _) (hone ▸ Nat.min_le_left _ _)).trans ?_
    rw [hone]
    exact congrArg₂ Mixer.mk (Ramp.after_succ _ n) (Ramp.after_succ _ n)

theorem samplePeriods_delay (n : Nat) {k : LaneId} (hlength : n ≤ s.audio.delay[k].length) :
    (s.samplePeriods n).audio.delay[k] = s.audio.delay[k].drop n ++
      (List.range n).map fun j => (Config.tdmInput (s.sampleNo + j) (k.castLE (by omega))).extractLsb' 8 24 := by
  induction n generalizing s with
  | zero => exact (List.append_nil _).symm
  | succ n ih =>
    have hone := getElem_samplePeriod_delay s k
    have hlong : n ≤ (s.audio.delay[k].drop 1).length := List.length_drop ▸ Nat.le_sub_of_add_le hlength
    refine (ih (s := s.samplePeriod) (hone ▸ hlong.trans (List.length_append ▸ Nat.le_add_right _ _))).trans ?_
    rw [hone, feedLine, List.drop_append_of_le_length hlong, List.drop_drop, List.append_assoc, List.range_succ_eq_map,
      Nat.add_comm 1 n, List.map_cons, List.map_map]
    refine congrArg (s.audio.delay[k].drop (n + 1) ++ ·) (congrArg (_ :: ·) (List.map_congr_left fun j _ => ?_))
    exact congrArg (fun m => (Config.tdmInput m (k.castLE (by omega))).extractLsb' 8 24) (Nat.succ_add_eq_add_succ s.sampleNo j)

theorem samplePeriods_out {n : Nat} (hclock : s.clock.state ≠ .present) (hn : 0 < n) :
    (s.samplePeriods n).audio.out = Vector.replicate 8 0 := by
  induction n generalizing s with
  | zero => exact absurd hn (Nat.lt_irrefl 0)
  | succ n ih =>
    obtain rfl | hpos := Nat.eq_zero_or_pos n
    · exact (samplePeriod_passes s).2.2.2 hclock
    · exact ih (s := s.samplePeriod) hclock hpos

theorem samplePeriods_pass (n : Nat) : PeriodsPass s.clock.state n s (s.samplePeriods n).channels (s.samplePeriods n).mixers
    (s.samplePeriods n).audio :=
  ⟨fun _ => ⟨samplePeriods_channel_still n, samplePeriods_channel_plays n, samplePeriods_channel_fades n,
      samplePeriods_channel_faded n⟩,
    fun _ => samplePeriods_mixer n, fun _ => samplePeriods_delay n, samplePeriods_out⟩

end Sys2Proof.Machine
end

section
/-! PROOF. The rows of the clock, of the armed cue's countdown and of the clock's loss and return keep every law (chapter 10, R131). -/

namespace Sys2Proof.Machine

variable {s₀ s : State}

/-! ### Edges that no row names (R167, R169) -/

theorem Keeps.samplePeriods (h : Keeps s₀ s) (n : Nat) : Keeps s₀ (s.samplePeriods n) := by
  induction n generalizing s with
  | zero => exact h
  | succ n ih => exact ih h.samplePeriod

theorem State.samplePeriods_clock (s : State) (n : Nat) : (s.samplePeriods n).clock = s.clock := by
  obtain ⟨_, _, _, heq⟩ := s.samplePeriods_frame n
  rw [heq]

/-- The supervisor's counts with so many more edges, by its state. -/
theorem edgesLeft_present {c : Supervisor} (h : c.state = .present) : edgesLeft c = 255 - c.period := by
  rw [edgesLeft, h]
  rfl

theorem edgesLeft_settling {c : Supervisor} (h : c.state = .settling) : edgesLeft c = 511 - c.settle := by
  rw [edgesLeft, h]
  rfl

/-- Edges that are left are counted within the supervisor's ranges. -/
theorem countEdges_clockLaw (hs : ClockLaw s) {n : Nat} (hn : n ≤ edgesLeft s.clock) :
    ClockLaw { s with clock := countEdges n s.clock } := by
  obtain ⟨hperiod, _, hframe, hrest, hlost, hsettling, hpresent⟩ := id hs
  unfold countEdges
  split
  · exact hs
  · split
    case h_1 hstate =>
      rw [edgesLeft_present hstate] at hn
      exact ⟨(Nat.add_le_add_left hn _).trans (Nat.add_sub_of_le hperiod).le, Nat.zero_le _, hframe,
        fun hne => absurd hstate hne, hlost, hsettling, hpresent⟩
    case h_2 hstate =>
      rw [edgesLeft_settling hstate] at hn
      obtain ⟨hlow, hhigh⟩ := hsettling hstate
      exact ⟨hperiod, Nat.zero_le _, hframe, hrest, fun hs => absurd (hstate.symm.trans hs) (by decide),
        fun _ => ⟨hlow.trans (Nat.le_add_right _ _), (Nat.add_le_add_left hn _).trans (Nat.add_sub_of_le hhigh).le⟩,
        fun hs => absurd (hstate.symm.trans hs) (by decide)⟩
    case h_3 => exact hs

theorem Keeps.runEdges (h : Keeps s₀ s) {n : Nat} (hn : n ≤ edgesLeft s.clock) : Keeps s₀ (s.runEdges n) := by
  refine (h.samplePeriods n).clock _ fun hclock => ?_
  have hcounted := countEdges_clockLaw (s := s.samplePeriods n) hclock (n := n) (by rwa [State.samplePeriods_clock])
  rwa [State.samplePeriods_clock] at hcounted

theorem Keeps.idleEdge (h : Keeps s₀ s) : Keeps s₀ s.idleEdge := by
  unfold State.idleEdge
  split
  case isTrue => exact h
  case isFalse hmore => exact h.runEdges (Nat.one_le_iff_ne_zero.2 fun hnone => hmore (.inr hnone))

/-! ### The armed cue (R126, R130 to R132) -/

/-- A record that goes to IDLE (R126). -/
theorem Keeps.idleCue (h : Keeps s₀ s) : Keeps s₀ s.idleCue :=
  (h.cue { s.cue with armed := false, remaining := 0 } fun hq hc =>
    ⟨⟨hq.1, Bool.noConfusion⟩, hc.1, Nat.zero_le _, fun _ => rfl, Bool.noConfusion, Bool.noConfusion⟩).headTriedAgain

/-- The armed cue's take goes into the reserved place (R91, R126). -/
theorem Keeps.takeCue (h : Keeps s₀ s) (armed : s.cue.armed = true) : Keeps s₀ (s.stage (.take s.cue.scene)).idleCue :=
  (h.cueTaken armed).headTriedAgain

theorem Keeps.fireArmed (h : Keeps s₀ s) (armed : s.cue.armed = true) : Keeps s₀ s.fireArmed := (h.takeCue armed).raise _ _

theorem Keeps.expireCue (h : Keeps s₀ s) (armed : s.cue.armed = true) : Keeps s₀ s.expireCue := by
  unfold State.expireCue
  split
  · exact (h.takeCue armed).raise _ _
  · exact h.idleCue.raise _ _

theorem Keeps.countdown (h : Keeps s₀ s) : Keeps s₀ s.countdown := by
  unfold State.countdown
  split
  case isFalse => exact h
  case isTrue hcounts =>
    obtain ⟨harmed, htimeout⟩ := hcounts
    split
    case isTrue => exact h.expireCue harmed
    case isFalse hmore =>
      refine h.cue _ fun hqueue hcue => ?_
      obtain ⟨hmax, hremaining, _, hset, _⟩ := hcue
      refine ⟨hqueue, hmax, ?_, ?_, hset, fun _ _ => ?_⟩
      · exact (Nat.sub_le _ _).trans hremaining
      · exact fun hidle => absurd (harmed.symm.trans hidle) Bool.noConfusion
      · exact Nat.sub_pos_of_lt (Nat.lt_of_not_le hmore)

/-! ### The frame boundary (R131, R158, R159, R167) -/

/-- A table mapped, entry by entry against the entries before. -/
theorem forall_map_rel {α β : Type} {n : Nat} {R : α → β → Prop} {f : α → β} (h : ∀ a, R a (f a)) (v : Vector α n) (i : Fin n) :
    R v[i] (v.map f)[i] :=
  (Vector.getElem_map f (xs := v) i.isLt).symm ▸ h v[i]

theorem Keeps.startRamps (h : Keeps s₀ s) : Keeps s₀ { s with channels := s.channels.map startRamp } :=
  h.channels _ (fun _ _ hr => forall_map (P := ChannelLegal) fun i => startRamp_legal (hr.1 i)) fun i _ =>
    (forall_map_rel (R := fun c d : Channel => d.nextGain = c.nextGain) startRamp_nextGain s.channels i).trans

/-- Every lane changed in its tracking alone. -/
theorem Keeps.mapLanes (h : Keeps s₀ s) (f : Lane → Lane) (hsettings : ∀ l, (f l).settings = l.settings)
    (hchars : ∀ l, (f l).chars = l.chars) (hlegal : ∀ l, TrackingLegal l → TrackingLegal (f l)) :
    Keeps s₀ { s with lanes := s.lanes.map f } :=
  h.lanes _ (forall_map_rel (R := fun l m : Lane => m.settings = l.settings) hsettings s.lanes)
    (forall_map_rel (R := fun l m : Lane => m.chars = l.chars) hchars s.lanes)
    (forall_map_rel (R := fun l m : Lane => TrackingLegal l → TrackingLegal m) hlegal s.lanes)

theorem Keeps.setDue (h : Keeps s₀ s) (due : Bool) : Keeps s₀ { s with lanes := s.lanes.map (setDue due) } :=
  h.mapLanes _ (fun _ => rfl) (fun _ => rfl) fun _ => id

theorem boundaryClock_clockLaw (hs : ClockLaw s) : ClockLaw { s with clock := boundaryClock s.clock } := by
  obtain ⟨_, _, _, _, hcounts⟩ := hs
  exact ⟨Nat.zero_le _, Nat.zero_le _, Nat.le_of_lt_succ (Nat.mod_lt _ (Nat.zero_lt_succ 65535)), fun _ => rfl, hcounts⟩

theorem Keeps.boundaryActs (h : Keeps s₀ s) : Keeps s₀ s.boundaryActs := by
  have hcounted : Keeps s₀ (if s.applyQueue.clock.countdownTaken then s.applyQueue else s.applyQueue.countdown) := by
    split
    · exact h.applyQueue
    · exact h.applyQueue.countdown
  exact ((hcounted.startRamps.setDue true).clock _ boundaryClock_clockLaw).samplePeriods 1

theorem Keeps.frameBoundary (h : Keeps s₀ s) : Keeps s₀ s.frameBoundary := (h.runEdges le_rfl).boundaryActs

/-- CUE_EXPIRED's act (R131). -/
theorem Keeps.cueExpired (h : Keeps s₀ s) (hexpires : cueExpires s = true) :
    Keeps s₀ { (s.runEdges (edgesLeft s.clock)).expireCue with
      clock := { (s.runEdges (edgesLeft s.clock)).clock with countdownTaken := true } } := by
  obtain ⟨_, _, _, hframe⟩ := s.runEdges_frame (edgesLeft s.clock)
  have harmed : (s.runEdges (edgesLeft s.clock)).cue.armed = true := by
    rw [hframe]
    simp only [cueExpires, Bool.and_eq_true] at hexpires
    exact hexpires.1.1.2
  have hclock : (s.runEdges (edgesLeft s.clock)).expireCue.clock = (s.runEdges (edgesLeft s.clock)).clock := by
    rw [State.expireCue_eq]
  rw [← hclock]
  exact ((h.runEdges le_rfl).expireCue harmed).clock _ fun hlaw => hlaw

/-- Once its remaining samples are made, a CUTTING channel that keeps its law is SILENT (R159). -/
theorem runEdges_fadeLeft_silent {i : Slot} (hcutting : s.channels[i].state = .cutting)
    (hlegal : ChannelLegal (s.runEdges (fadeLeft s i)).channels[i]) :
    (s.runEdges (fadeLeft s i)).channels[i].state = .silent := by
  change ChannelLegal (s.samplePeriods (fadeLeft s i)).channels[i] at hlegal
  change (s.samplePeriods (fadeLeft s i)).channels[i].state = .silent
  obtain hposition | hnone := Nat.lt_or_ge s.channels[i].position 256
  · exact congrArg Channel.state (samplePeriods_channel_faded (fadeLeft s i) hcutting hposition (Nat.add_sub_of_le hposition.le).ge)
  · rw [show fadeLeft s i = 0 from Nat.sub_eq_zero_of_le hnone] at hlegal
    obtain ⟨_, _, _, _, _, hcut⟩ := hlegal
    exact absurd (hcut hcutting).2 (Nat.not_lt.2 hnone)

theorem silenced_legal {c : Channel} (h : ChannelLegal c) (hsilent : c.state = .silent) : ChannelLegal (silenced c) := by
  obtain ⟨hgains, hratios, hpans, hposition, hquiet, _⟩ := h
  exact ⟨hgains, hratios, hpans, hposition, fun _ => ⟨(hquiet hsilent).1, (hquiet hsilent).2.1, rfl, rfl⟩, ChannelState.noConfusion⟩

/-- CUT_FADE_END's act (R159). -/
theorem Keeps.cutFadeEnd (h : Keeps s₀ s) {i : Slot} (hcutting : s.channels[i].state = .cutting)
    (hleft : fadeLeft s i ≤ edgesLeft s.clock) :
    Keeps s₀ ((s.runEdges (fadeLeft s i)).setChannel i (silenced (s.runEdges (fadeLeft s i)).channels[i])) := by
  refine (h.runEdges hleft).setChannel i _ (fun _ _ hr => ?_) fun _ => id
  exact silenced_legal (hr.1 i) (runEdges_fadeLeft_silent hcutting (hr.1 i))

/-! ### Clock loss and return (R24, R61, R165, R168 to R170) -/

theorem Keeps.loseClock (h : Keeps s₀ s) : Keeps s₀ s.loseClock := by
  refine (((h.setDue false).output silentOut).clock _ fun hc => ?_).raise _ _
  exact ⟨Nat.zero_le _, le_rfl, hc.2.2.1, fun _ => rfl, fun _ => rfl, ClockState.noConfusion, ClockState.noConfusion⟩

theorem Keeps.startSettling (h : Keeps s₀ s) (hlost : s.clock.state = .lost) : Keeps s₀ s.startSettling := by
  refine (h.clock { s.clock with state := .settling, settle := 1, gap := 0 } fun hc => hc.imp_right fun hc => ⟨Nat.zero_le _, hc.2.imp_right fun hc => ?_⟩).samplePeriods 1
  exact ⟨fun _ => hc.1 (ne_of_eq_of_ne hlost (by decide)), ClockState.noConfusion, fun _ => ⟨le_rfl, Nat.le_add_left 1 510⟩, ClockState.noConfusion⟩

/-- SETTLING_ABORT's act (R169). -/
theorem Keeps.abortSettling (h : Keeps s₀ s) (hsettling : s.clock.state = .settling) :
    Keeps s₀ { s with clock := { s.clock with state := .lost, settle := 0, gap := Config.gapLimit } } :=
  h.clock _ fun hc => hc.imp_right fun hc => ⟨le_rfl, hc.2.imp_right fun hc =>
    ⟨fun _ => hc.1 (ne_of_eq_of_ne hsettling (by decide)), fun _ => rfl, ClockState.noConfusion, ClockState.noConfusion⟩⟩

theorem clockReturnLane_trackingLegal {l : Lane} (h : TrackingLegal l) : TrackingLegal (clockReturnLane l) := by
  unfold clockReturnLane
  split
  · exact searchLane_trackingLegal h ‹_›
  · exact h

theorem voiceKept_clockReturnVoice (v : Voice) : VoiceKept s₀ v (clockReturnVoice v) := by
  have returned (hfree : v.state ≠ .free) (hreleasing : v.state ≠ .releasing) : VoiceKept s₀ v (toAcquiring v) :=
    ⟨⟨iff_of_false VoiceState.noConfusion hfree, VoiceState.noConfusion, rfl, rfl, fun _ => id, fun _ ⟨_, _, hrest⟩ => ⟨Nat.zero_le _, Nat.zero_le _, hrest⟩⟩,
      iff_of_false VoiceState.noConfusion hreleasing⟩
  unfold clockReturnVoice
  split
  case h_4 hactive => exact returned (ne_of_eq_of_ne hactive (by decide)) (ne_of_eq_of_ne hactive (by decide))
  case h_5 hholding => exact returned (ne_of_eq_of_ne hholding (by decide)) (ne_of_eq_of_ne hholding (by decide))
  all_goals exact .refl s₀ v

/-- The state with other channels and mixers. -/
noncomputable def State.withRender (s : State) (cs : Vector Channel 16) (ms : Vector Mixer 4) : State :=
  { s with channels := cs, mixers := ms }

theorem State.raiseFreed_withRender (s : State) (cs : Vector Channel 16) (ms : Vector Mixer 4) (slots : List Slot) :
    (s.withRender cs ms).raiseFreed slots = (s.raiseFreed slots).withRender cs ms := by
  rcases slots with _ | ⟨_, _ | _⟩
  · rfl
  · rfl
  · exact List.foldl_hom (g₁ := fun (t : State) (i : Slot) => t.raise .voiceFreed i)
      (init := { s with choiceNo := s.choiceNo + 1 }) (fun t : State => t.withRender cs ms) fun _ _ => rfl

/-- The voices at the clock's return and the silence of the channels are independent of each other. -/
theorem State.clockReturnVoices_withRender (s : State) (cs : Vector Channel 16) (ms : Vector Mixer 4) :
    (s.withRender cs ms).clockReturnVoices = s.clockReturnVoices.withRender cs ms := by
  unfold State.clockReturnVoices
  dsimp only
  rw [← State.raiseFreed_withRender]
  congr 1
  have hfold : ∀ l : List Slot, l.foldl State.freeVoice (s.withRender cs ms) =
      (l.foldl State.freeVoice s).withRender cs ms := fun l =>
    List.foldl_hom (fun t : State => t.withRender cs ms) fun _ _ => rfl
  rw [hfold]
  rfl

/-- Freed slots are voices that go, with their places in the lists. -/
theorem State.foldl_freeVoice_frame (l : List Slot) (s : State) : l.foldl State.freeVoice s = { s with
    voices := (l.foldl State.freeVoice s).voices, ageList := (l.foldl State.freeVoice s).ageList,
    releaseList := (l.foldl State.freeVoice s).releaseList } := by
  induction l generalizing s with
  | nil => rfl
  | cons i l ih => exact ih (s.freeVoice i)

/-- The voices at the clock's return, once the RELEASING ones are gone (R61). -/
noncomputable def State.releasingFreed (s : State) : State :=
  ((List.finRange 16).filter fun i => s.voices[i].state = .releasing).foldl State.freeVoice s

theorem State.clockReturnVoices_eq (s : State) : s.clockReturnVoices = { s.releasingFreed with
    voices := s.releasingFreed.voices.map clockReturnVoice, notices := s.clockReturnVoices.notices,
    choiceNo := s.clockReturnVoices.choiceNo } := by
  obtain ⟨ns, n, hraise⟩ := State.raiseFreed_frame
    { s.releasingFreed with voices := s.releasingFreed.voices.map clockReturnVoice } _
  exact (show s.clockReturnVoices = _ from hraise) ▸ rfl

theorem State.clockReturnVoices_frame (s : State) : s.clockReturnVoices = { s with
    voices := s.clockReturnVoices.voices, ageList := s.clockReturnVoices.ageList,
    releaseList := s.clockReturnVoices.releaseList, notices := s.clockReturnVoices.notices,
    choiceNo := s.clockReturnVoices.choiceNo } := by
  have heq := s.clockReturnVoices_eq
  generalize s.clockReturnVoices = v at heq ⊢
  refine heq.trans ?_
  rw [heq]
  exact congrArg (fun t : State => { t with
    voices := s.releasingFreed.voices.map clockReturnVoice, notices := v.notices, choiceNo := v.choiceNo })
    (State.foldl_freeVoice_frame _ s)

/-- The channels may as well be silenced before the voices return. -/
theorem State.clockReturnRender_clockReturnVoices (s : State) :
    s.clockReturnVoices.clockReturnRender =
      (s.withRender (s.channels.map silenceChannel) (s.lanes.map returnMixer)).clockReturnVoices := by
  rw [State.clockReturnVoices_withRender]
  exact congrArg₂ (fun cs ls => s.clockReturnVoices.withRender (cs.map silenceChannel) (ls.map returnMixer))
    (congrArg State.channels s.clockReturnVoices_frame :) (congrArg State.lanes s.clockReturnVoices_frame :)

theorem Keeps.foldl_freeVoice (h : Keeps s₀ s) (l : List Slot) (quiet : ∀ i : Slot, s.channels[i].nextGain = 0) :
    Keeps s₀ (l.foldl State.freeVoice s) := by
  induction l generalizing s with
  | nil => exact h
  | cons i l ih => exact ih (h.freeQuiet i fun _ => quiet i) quiet

theorem Keeps.clockReturnVoices (h : Keeps s₀ s) (quiet : ∀ i : Slot, s.channels[i].nextGain = 0) :
    Keeps s₀ s.clockReturnVoices :=
  ((h.foldl_freeVoice _ quiet).voices _ (forall_map_rel voiceKept_clockReturnVoice _)).raiseFreed _

theorem silenceChannel_nextGain (s : State) (i : Slot) : (s.channels.map silenceChannel)[i].nextGain = 0 :=
  forall_map (P := fun c : Channel => c.nextGain = 0) (fun _ => rfl) i

theorem Keeps.silenceChannels (h : Keeps s₀ s) : Keeps s₀ { s with channels := s.channels.map silenceChannel } :=
  h.channels _ (fun _ _ hr => forall_map (P := ChannelLegal) fun i => silenceChannel_legal (hr.1 i)) fun i _ _ =>
    silenceChannel_nextGain s i

theorem clockReturnLane_settings_chars (l : Lane) :
    (clockReturnLane l).settings = l.settings ∧ (clockReturnLane l).chars = l.chars := by
  unfold clockReturnLane
  split <;> exact ⟨rfl, rfl⟩

theorem Keeps.enterPresent (h : Keeps s₀ s) : Keeps s₀ s.enterPresent := by
  have hclock := h.clock
    { s.clock with state := .present, gap := 0, settle := Config.settleLength, period := 0, frame := 0 } fun _ =>
    ⟨Nat.zero_le _, Nat.zero_le _, Nat.zero_le _, fun _ => rfl, ClockState.noConfusion, ClockState.noConfusion, fun _ => rfl⟩
  have hlanes := hclock.mapLanes clockReturnLane (fun l => (clockReturnLane_settings_chars l).1)
    (fun l => (clockReturnLane_settings_chars l).2) fun _ => clockReturnLane_trackingLegal
  have hrender := hlanes.silenceChannels.mixers ((s.lanes.map clockReturnLane).map returnMixer) fun _ hrec _ =>
    forall_map (P := MixerLegal) fun k => retarget_legal zero_mixerLegal (hrec.lane k).2
  have hvoices := hrender.clockReturnVoices fun i => silenceChannel_nextGain _ i
  unfold State.enterPresent
  dsimp only
  rw [State.clockReturnRender_clockReturnVoices]
  exact (hvoices.raise _ _).samplePeriods 1

end Sys2Proof.Machine
end

section
/-! PROOF. Lane results, the voices at them, and the pedals keep every law (sections 1.3, 3.2, 11.3). -/

namespace Sys2Proof.Machine

variable {s₀ s : State}

/-! ### The voice computation in its ranges (R41 to R43) -/

theorem compute_valuesLegal {v : Voice} (hvalues : ValuesLegal v) (c : VoiceContext) : ValuesLegal (compute v c) := by
  obtain ⟨hlevel, htarget, _⟩ := hvalues
  obtain ⟨hlow, hhigh⟩ := clampInterval_bounds ((computePitch v c).o - c.p)
  obtain ⟨hratioLow, hratioHigh, _⟩ := ratioIsExactlyRounded (compute v c).delta hlow hhigh
  have hstep := (levelStep_between v.level v.levelTarget v.template.attack v.template.release).2
  exact ⟨hstep.trans (max_le hlevel htarget), htarget, ⟨hlow, hhigh⟩, hratioLow, hratioHigh⟩

theorem stepLevel_valuesLegal {v : Voice} (hvalues : ValuesLegal v) : ValuesLegal (stepLevel v) := by
  obtain ⟨hlevel, htarget, hrest⟩ := hvalues
  have hstep := (levelStep_between v.level v.levelTarget v.template.attack v.template.release).2
  exact ⟨hstep.trans (max_le hlevel htarget), htarget, hrest⟩

theorem computeAndCapture_valuesLegal {v : Voice} (hvalues : ValuesLegal v) {target : Nat} (htarget : target ≤ 4096)
    (c : VoiceContext) : ValuesLegal (computeAndCapture v target c) := by
  have hcomputed := compute_valuesLegal (v := { v with levelTarget := target }) ⟨hvalues.1, htarget, hvalues.2.2⟩ c
  unfold computeAndCapture
  dsimp only
  split
  · exact hcomputed
  · exact hcomputed

/-- A voice's own act writes neither its state nor its template (R51). -/
theorem computeAndCapture_frame (v : Voice) (target : Nat) (c : VoiceContext) :
    (computeAndCapture v target c).state = v.state ∧ (computeAndCapture v target c).template = v.template := by
  unfold computeAndCapture
  dsimp only
  split <;> exact ⟨rfl, rfl⟩

/-- Release completion writes the state alone (R56). -/
theorem finishRelease_frame (v : Voice) : ∃ st, finishRelease v = { v with state := st } ∧ (st = v.state ∨ st = .free) := by
  unfold finishRelease
  split
  · exact ⟨_, rfl, .inr rfl⟩
  · exact ⟨_, rfl, .inl rfl⟩

/-! ### What a voice's act keeps (R51 to R56) -/

/-- A voice after a result of its lane: its template as it was, its values in their ranges, and RELEASING or PENDING only if it
was. -/
structure ActKeeps (v w : Voice) : Prop where
  template : w.template = v.template
  present : actsAtResults v.state = true → w.state = .free ∨ actsAtResults w.state = true
  releasing : w.state ≠ .free → (w.state = .releasing ↔ v.state = .releasing)
  values : v.template.level ≤ 4096 → ValuesLegal v → ValuesLegal w

theorem ActKeeps.refl (v : Voice) : ActKeeps v v := ⟨rfl, .inr, fun _ => .rfl, fun _ => id⟩

/-- The computation toward an audible level, of a voice that is not RELEASING. -/
theorem actKeeps_compute {v : Voice} (hheld : v.state ≠ .releasing) (u : Voice) (c : VoiceContext)
    (hacts : actsAtResults u.state = true) (hstate : u.state ≠ .releasing) (htemplate : u.template = v.template)
    (hvalues : ValuesLegal v → ValuesLegal u) : ActKeeps v (computeAndCapture u v.template.level c) := by
  obtain ⟨hsame, htemplate'⟩ := computeAndCapture_frame u v.template.level c
  refine ⟨htemplate'.trans htemplate, fun _ => .inr (hsame ▸ hacts), fun _ => ?_, fun hlevel hv =>
    computeAndCapture_valuesLegal (hvalues hv) hlevel c⟩
  rw [hsame]
  exact iff_of_false hstate hheld

/-- A RELEASING voice that acts, and may be freed (R56). -/
theorem actKeeps_finishRelease {v : Voice} (hreleasing : v.state = .releasing) {u : Voice} (hstate : u.state = .releasing)
    (htemplate : u.template = v.template) (hvalues : ValuesLegal v → ValuesLegal u) : ActKeeps v (finishRelease u) := by
  obtain ⟨st, heq, hst⟩ := finishRelease_frame u
  rw [heq]
  refine ⟨htemplate, fun _ => ?_, fun hpresent => ?_, fun _ => hvalues⟩
  · obtain rfl | rfl := hst
    · exact .inr (congrArg actsAtResults hstate)
    · exact .inl rfl
  · obtain rfl | rfl := hst
    · exact iff_of_true hstate hreleasing
    · exact absurd rfl hpresent

/-- A RELEASING voice that computes toward level 0 (R52, R53, R56). -/
theorem actKeeps_release {v : Voice} (hreleasing : v.state = .releasing) (c : VoiceContext) :
    ActKeeps v (finishRelease (computeAndCapture v 0 c)) := by
  obtain ⟨hsame, htemplate⟩ := computeAndCapture_frame v 0 c
  exact actKeeps_finishRelease hreleasing (hsame.trans hreleasing) htemplate fun hv =>
    computeAndCapture_valuesLegal hv (Nat.zero_le _) c

theorem actLocked_keeps (v : Voice) (c : VoiceContext) : ActKeeps v (actLocked v c) := by
  unfold actLocked
  split
  case h_1 | h_2 => exact .refl v
  case h_3 hstate => exact actKeeps_compute (ne_of_eq_of_ne hstate (by decide)) { v with state := .active, fresh := true } c rfl VoiceState.noConfusion rfl id
  case h_4 hstate => exact actKeeps_compute (ne_of_eq_of_ne hstate (by decide)) v c (congrArg actsAtResults hstate) (ne_of_eq_of_ne hstate (by decide)) rfl id
  case h_5 hstate => exact actKeeps_compute (ne_of_eq_of_ne hstate (by decide)) { v with state := .active } c rfl VoiceState.noConfusion rfl id
  case h_6 hstate => exact actKeeps_release hstate c

theorem actHold_keeps (v : Voice) (c : VoiceContext) : ActKeeps v (actHold v c) := by
  unfold actHold
  split
  case h_1 | h_2 | h_3 => exact .refl v
  case h_4 hstate => exact actKeeps_compute (ne_of_eq_of_ne hstate (by decide)) { v with state := .holding } c rfl VoiceState.noConfusion rfl id
  case h_5 hstate => exact actKeeps_compute (ne_of_eq_of_ne hstate (by decide)) v c (congrArg actsAtResults hstate) (ne_of_eq_of_ne hstate (by decide)) rfl id
  case h_6 hstate => exact actKeeps_release hstate c

theorem fadeAlone_valuesLegal {v : Voice} (h : ValuesLegal v) : ValuesLegal (fadeAlone v) :=
  stepLevel_valuesLegal ⟨h.1, Nat.zero_le _, h.2.2⟩

/-- A voice that goes on, or to another acting state, with its template. -/
theorem actKeeps_of_values {v w : Voice} (hacts : actsAtResults w.state = true) (hw : w.state ≠ .releasing)
    (hv : v.state ≠ .releasing) (htemplate : w.template = v.template) (hvalues : ValuesLegal v → ValuesLegal w) : ActKeeps v w :=
  ⟨htemplate, fun _ => .inr hacts, fun _ => iff_of_false hw hv, fun _ => hvalues⟩

theorem actReacquire_keeps (v : Voice) : ActKeeps v (actReacquire v) := by
  unfold actReacquire
  split
  case h_1 | h_2 => exact .refl v
  case h_3 hstate | h_5 hstate =>
    have hsame : (fadeAlone v).state = _ := hstate
    exact actKeeps_of_values (congrArg actsAtResults hsame) (ne_of_eq_of_ne hsame (by decide)) (ne_of_eq_of_ne hstate (by decide)) rfl fadeAlone_valuesLegal
  case h_4 hstate =>
    exact actKeeps_of_values rfl VoiceState.noConfusion (ne_of_eq_of_ne hstate (by decide)) rfl (fadeAlone_valuesLegal (v := { v with state := .holding }))
  case h_6 hstate => exact actKeeps_finishRelease hstate hstate rfl fadeAlone_valuesLegal

theorem actSearch_keeps (v : Voice) : ActKeeps v (actSearch v) := by
  have silent : ValuesLegal v → ValuesLegal { v with level := 0, levelTarget := 0 } := fun h =>
    ⟨Nat.zero_le _, Nat.zero_le _, h.2.2⟩
  unfold actSearch
  split
  case h_1 | h_2 => exact .refl v
  case h_3 hstate =>
    exact actKeeps_of_values (congrArg actsAtResults hstate) (ne_of_eq_of_ne hstate (by decide)) (ne_of_eq_of_ne hstate (by decide)) rfl silent
  case h_4 hstate | h_5 hstate => exact actKeeps_of_values rfl VoiceState.noConfusion (ne_of_eq_of_ne hstate (by decide)) rfl silent
  case h_6 => exact ⟨rfl, fun _ => .inl rfl, fun hpresent => absurd rfl hpresent, fun _ => id⟩

theorem voiceAct_keeps (c : VoiceContext) (v : Voice) : ActKeeps v (voiceAct c v) := by
  unfold voiceAct
  split
  · exact .refl v
  · exact actSearch_keeps v
  · exact actLocked_keeps v c
  · exact actHold_keeps v c
  · exact actReacquire_keeps v

/-- An acting voice that is not freed is the same voice. -/
theorem voiceKept_voiceAct (c : VoiceContext) {v : Voice} (hacts : actsAtResults v.state = true)
    (hpresent : (voiceAct c v).state ≠ .free) : VoiceKept s₀ v (voiceAct c v) := by
  obtain ⟨htemplate, hstays, hreleasing, hvalues⟩ := voiceAct_keeps c v
  obtain ⟨hfree, _⟩ := present_of_acts hacts
  obtain ⟨_, hnotPending⟩ := present_of_acts ((hstays hacts).resolve_left hpresent)
  exact ⟨⟨iff_of_false hpresent hfree, fun h => absurd h hnotPending, congrArg _ htemplate, congrArg _ htemplate,
    fun _ h => htemplate ▸ h, fun hlegal => hvalues (hlegal hfree).2.2.2.2.2.2.2.1⟩, hreleasing hpresent⟩

theorem Keeps.actSlot (h : Keeps s₀ s) (k : LaneId) (c : VoiceContext) (i : Slot) : Keeps s₀ (State.actSlot k c s i) := by
  unfold State.actSlot
  split
  case isFalse => exact h
  case isTrue hacts =>
    have hacts := (Bool.and_eq_true_iff.1 hacts).2
    dsimp only
    split
    · exact h.free i _ fun hr => ⟨rfl, noNextGain_legal (hr.1 i)⟩
    · exact h.voiceActs i _ hacts (voiceKept_voiceAct c hacts ‹_›)

theorem Keeps.actVoices (h : Keeps s₀ s) (k : LaneId) : Keeps s₀ (s.actVoices k) :=
  Keeps.raiseFreed (Keeps.foldl (fun _ i _ ht => ht.actSlot k _ i) h) _

/-! ### The lane at a result (section 1.3) -/

/-- P within the widest limits (R21). -/
theorem inLimits_widest {c : LaneChars} (hc : CharsLegal c) {x : Int} (h : inLimits c x = true) : 2251 ≤ x ∧ x ≤ 7823 := by
  obtain ⟨⟨hlow, _, hhigh⟩, _⟩ := hc
  obtain ⟨h1, h2⟩ := (inLimits_iff c x).1 h
  exact ⟨hlow.trans h1, h2.trans hhigh⟩

theorem clearRuns_legal {l : Lane} (h : TrackingLegal l) : TrackingLegal (clearRuns l) := by
  obtain ⟨hoff, _, _, hrest⟩ := h
  exact ⟨hoff, Nat.zero_le _, Nat.zero_le _, hrest⟩

/-- A lane that is not in OFF mode's state is ON. -/
theorem TrackingLegal.on {l : Lane} (h : TrackingLegal l) (htracking : l.tracking ≠ .off) : l.settings.on = true :=
  eq_true_of_ne_false fun hoff => htracking (h.1.2 hoff)

/-- A lane that has lost its voiced results keeps its pitch while its counter runs. -/
theorem TrackingLegal.hold {l : Lane} (h : TrackingLegal l) (hvalid : pitchValid l.tracking = true) (hon : l.tracking ≠ .off)
    {st : Tracking} (hst : st ≠ .off) {n : Nat} (hn : 1 ≤ n ∧ n ≤ 255) :
    TrackingLegal { l with tracking := st, counter := n } := by
  have hmode := h.on hon
  obtain ⟨_, hconfirm, hoctave, _, hresults, hcorrections, _, hpitch⟩ := h
  exact ⟨iff_of_false hst (ne_of_eq_of_ne hmode (by decide)), hconfirm, hoctave, hn.2, hresults, hcorrections, fun _ => hn.1, fun _ => hpitch hvalid⟩

/-- A LOCKED lane's law. -/
theorem TrackingLegal.of_locked {l : Lane} (htracking : l.tracking = .locked) (hon : l.settings.on = true)
    (hcounts : l.confirmCount ≤ 8 ∧ l.octaveLength ≤ 15 ∧ l.counter ≤ 255 ∧ l.resultCount ≤ 65535 ∧ l.correctionCount ≤ 65535)
    (hpitch : 2251 ≤ l.p ∧ l.p ≤ 7823) : TrackingLegal l := by
  obtain ⟨hconfirm, hoctave, hcounter, hresults, hcorrections⟩ := hcounts
  exact ⟨iff_of_false (ne_of_eq_of_ne htracking (by decide)) (ne_of_eq_of_ne hon (by decide)), hconfirm, hoctave, hcounter, hresults, hcorrections,
    fun hheld => absurd hheld (by rw [htracking]; decide), fun _ => hpitch⟩

theorem TrackingLegal.ite {c : Prop} [Decidable c] {a b : Lane × LaneEvents} (ha : c → TrackingLegal a.1)
    (hb : ¬c → TrackingLegal b.1) : TrackingLegal (if c then a else b).1 := by
  split
  · exact ha ‹_›
  · exact hb ‹_›

section
variable {l : Lane} (hc : CharsLegal l.chars) (h : TrackingLegal l)
include hc h

theorem takeUnvoiced_legal : TrackingLegal (takeUnvoiced l).1 := by
  have hu := clearRuns_legal h
  obtain ⟨_, _, _, _, _, _, hhold, hreacquire⟩ := (show CharsLegal (clearRuns l).chars from hc)
  unfold takeUnvoiced
  dsimp only
  generalize clearRuns l = u at *
  have hcounter (hmore : ¬u.counter - 1 = 0) : 1 ≤ u.counter - 1 ∧ u.counter - 1 ≤ 255 :=
    ⟨Nat.pos_of_ne_zero hmore, (Nat.sub_le _ _).trans hu.2.2.2.1⟩
  have hkeeps {st : Tracking} (hst : st ≠ .off) (hactive : pitchValid u.tracking = true ∧ u.tracking ≠ .off) {n : Nat} :=
    hu.hold hactive.1 hactive.2 hst (n := n)
  cases hstate : u.tracking with
  | off | search => exact hu
  | locked =>
    have hactive : pitchValid u.tracking = true ∧ u.tracking ≠ .off := hstate ▸ ⟨rfl, Tracking.noConfusion⟩
    exact .ite (fun _ => hkeeps Tracking.noConfusion hactive hreacquire) fun _ =>
      .ite (fun _ => hkeeps Tracking.noConfusion hactive hreacquire) fun hmore =>
        hkeeps Tracking.noConfusion hactive ⟨Nat.pos_of_ne_zero hmore, hhold⟩
  | hold =>
    have hactive : pitchValid u.tracking = true ∧ u.tracking ≠ .off := hstate ▸ ⟨rfl, Tracking.noConfusion⟩
    exact .ite (fun _ => hkeeps Tracking.noConfusion hactive hreacquire) fun _ =>
      .ite (fun _ => hkeeps Tracking.noConfusion hactive hreacquire) fun hmore => hkeeps Tracking.noConfusion hactive (hcounter hmore)
  | reacquire =>
    have hactive : pitchValid u.tracking = true ∧ u.tracking ≠ .off := hstate ▸ ⟨rfl, Tracking.noConfusion⟩
    exact .ite (fun _ => .of_pitchless (if_pos (hu.on hactive.2)).symm ⟨hu.2.1, hu.2.2.1, Nat.zero_le _, hu.2.2.2.2.1, hu.2.2.2.2.2.1⟩)
      fun hmore => hkeeps Tracking.noConfusion hactive (hcounter hmore)

/-- A lock on a pitch in the lane's limits (R6, R11). -/
theorem lockLane_legal (hon : l.settings.on = true) {raw : Int} (hraw : inLimits l.chars raw = true) (note ref : Int) :
    TrackingLegal (lockLane l raw note ref) := by
  obtain ⟨_, _, _, hcounter, hresults, hcorrections, _⟩ := h
  exact .of_locked rfl hon ⟨Nat.zero_le _, Nat.zero_le _, hcounter, hresults, hcorrections⟩ (inLimits_widest hc hraw)

/-- An incomplete confirmation run, extended (R5). -/
theorem extendRun_legal {note : Int} (hmore : ¬runComplete (extendRun l note) = true) : TrackingLegal (extendRun l note) := by
  obtain ⟨hoff, _, hrest⟩ := h
  have hcount : (extendRun l note).confirmCount ≤ 8 :=
    (Nat.le_of_not_le fun hle => hmore (decide_eq_true hle)).trans
      ((congrArg (fun u : Lane => u.chars.confirmFrames) (extendRun_eq l note)).le.trans hc.2.2.2.1.2)
  rw [extendRun_eq] at hcount ⊢
  exact ⟨hoff, hcount, hrest⟩

/-- The note decision counts an incomplete run only (R19). -/
theorem noteDecision_legal (ref : Int) : TrackingLegal (noteDecision l ref).1 := by
  unfold noteDecision
  dsimp only
  split
  · obtain ⟨hoff, _, hrest⟩ := h
    exact ⟨hoff, Nat.zero_le _, hrest⟩
  · split
    case isTrue =>
      rw [extendRun_eq]
      obtain ⟨hoff, _, hrest⟩ := h
      exact ⟨hoff, Nat.zero_le _, hrest⟩
    case isFalse hmore => exact extendRun_legal hc h hmore

end

/-- The octave check accepts a pitch in the lane's limits, with a run that is short of correcting for good (R15, R16). -/
theorem octaveChecked_legal {l : Lane} (hc : CharsLegal l.chars) (hon : l.settings.on = true) {raw : Int}
    (hraw : inLimits l.chars raw = true) (hconfirm : l.confirmCount ≤ 8) (hcounter : l.counter ≤ 255)
    (hresults : l.resultCount ≤ 65535) (hcorrections : l.correctionCount ≤ 65535) : TrackingLegal (octaveChecked l raw) := by
  have accepted : TrackingLegal { clearOctave l with p := raw, tracking := .locked } :=
    .of_locked rfl hon ⟨hconfirm, Nat.zero_le _, hcounter, hresults, hcorrections⟩ (inLimits_widest hc hraw)
  unfold octaveChecked octaveCheck
  split
  · exact accepted
  · dsimp only
    split
    case isTrue hcorrects =>
      exact .of_locked rfl hon ⟨hconfirm, hcorrects.1.le.trans hc.2.2.2.2.2.1.2, hcounter, hresults, Nat.min_le_left _ _⟩
        (inLimits_widest hc hcorrects.2)
    case isFalse => exact accepted

/-- The octave check leaves the characteristics. -/
theorem octaveChecked_chars (l : Lane) (raw : Int) : (octaveChecked l raw).chars = l.chars := by
  obtain ⟨_, _, _, _, _, heq⟩ := octaveChecked_frame l raw
  rw [heq]

theorem voicedLocked_legal {l : Lane} (hc : CharsLegal l.chars) (hon : l.settings.on = true) {raw : Int}
    (hraw : inLimits l.chars raw = true) (hconfirm : l.confirmCount ≤ 8) (hcounter : l.counter ≤ 255)
    (hresults : l.resultCount ≤ 65535) (hcorrections : l.correctionCount ≤ 65535) (ref : Int) :
    TrackingLegal (voicedLocked l raw ref).1 :=
  noteDecision_legal (l := octaveChecked l raw) (by rwa [octaveChecked_chars])
    (octaveChecked_legal hc hon hraw hconfirm hcounter hresults hcorrections) ref

theorem takeVoiced_legal {l : Lane} (hc : CharsLegal l.chars) (h : TrackingLegal l) (hon : l.settings.on = true) {raw : Int}
    (hraw : inLimits l.chars raw = true) (ref : Int) : TrackingLegal (takeVoiced l raw ref).1 := by
  obtain ⟨_, hconfirm, _, hcounter, hresults, hcorrections, _⟩ := id h
  unfold takeVoiced
  split
  case h_1 => exact h
  case h_2 hsearch =>
    dsimp only
    split
    · exact lockLane_legal hc h hon hraw _ _
    · exact extendRun_legal hc h ‹_›
  case h_3 => exact voicedLocked_legal hc hon hraw hconfirm hcounter hresults hcorrections ref
  case h_4 =>
    exact voicedLocked_legal (l := { l with counter := 0 }) hc hon hraw hconfirm (Nat.zero_le _) hresults hcorrections ref
  case h_5 =>
    exact .of_locked rfl hon ⟨Nat.zero_le _, Nat.zero_le _, Nat.zero_le _, hresults, hcorrections⟩ (inLimits_widest hc hraw)

/-- A VOICED result lies in the lane's limits (R4). -/
theorem inLimits_of_classify_voiced {c : LaneChars} {r : LaneResult} (h : classify c r = .voiced) :
    inLimits c (rawPitch r.period) = true := by
  unfold classify at h
  split_ifs at h
  assumption

theorem takeResult_legal {l : Lane} (hc : CharsLegal l.chars) (h : TrackingLegal l) (hon : l.settings.on = true)
    (r : LaneResult) (ref : Int) : TrackingLegal (takeResult l r ref).1 := by
  obtain ⟨hoff, hconfirm, hoctave, hcounter, _, hrest⟩ := h
  have hcounted : TrackingLegal (countResult l r) :=
    ⟨hoff, hconfirm, hoctave, hcounter, Nat.le_of_lt_succ (Nat.mod_lt _ (Nat.zero_lt_succ 65535)), hrest⟩
  unfold takeResult
  dsimp only
  split
  case isTrue hclass => exact takeVoiced_legal (l := countResult l r) hc hcounted hon (inLimits_of_classify_voiced hclass) ref
  case isFalse => exact takeUnvoiced_legal (l := countResult l r) hc hcounted

/-- What the classification of a result leaves of a lane: its settings and characteristics, its result count and the confidence
of its latest result. -/
noncomputable def Lane.setUp (l : Lane) : LaneSettings × LaneChars × Nat × Byte :=
  (l.settings, l.chars, l.resultCount, l.lastConfidence)

theorem voicedLocked_setUp (l : Lane) (raw ref : Int) : (voicedLocked l raw ref).1.setUp = l.setUp := by
  obtain ⟨_, _, _, _, hdecided⟩ := noteDecision_frame (octaveChecked l raw) ref
  obtain ⟨_, _, _, _, _, hchecked⟩ := octaveChecked_frame l raw
  exact (congrArg (fun x : Lane × LaneEvents => x.1.setUp) hdecided).trans (congrArg Lane.setUp hchecked :)

theorem takeVoiced_setUp (l : Lane) (raw ref : Int) : (takeVoiced l raw ref).1.setUp = l.setUp := by
  unfold takeVoiced
  split
  case h_2 =>
    dsimp only
    split
    · rfl
    · rw [extendRun_eq]; rfl
  case h_3 => exact voicedLocked_setUp l raw ref
  case h_4 => exact voicedLocked_setUp { l with counter := 0 } raw ref
  all_goals rfl

theorem takeUnvoiced_setUp (l : Lane) : (takeUnvoiced l).1.setUp = l.setUp := by
  unfold takeUnvoiced
  dsimp only
  repeat' split
  all_goals rfl

/-- A result leaves a lane's settings and characteristics, and is counted (R3). -/
theorem takeResult_setUp (l : Lane) (r : LaneResult) (ref : Int) : (takeResult l r ref).1.setUp =
    (l.settings, l.chars, (l.resultCount + 1) % 65536, r.confidence) := by
  unfold takeResult
  dsimp only
  split
  · exact takeVoiced_setUp (countResult l r) _ ref
  · exact takeUnvoiced_setUp (countResult l r)

theorem Keeps.raiseLaneEvents (h : Keeps s₀ s) (k : LaneId) (e : LaneEvents) : Keeps s₀ (s.raiseLaneEvents k e) := by
  unfold State.raiseLaneEvents
  dsimp only
  split <;> split
  · exact (h.raise _ _).raise _ _
  · exact h.raise _ _
  · exact h.raise _ _
  · exact h

theorem Keeps.noteArrival (h : Keeps s₀ s) (k : LaneId) (arrival : Option Int) : Keeps s₀ (s.noteArrival k arrival) := by
  obtain ⟨_, _, harmed, _, _, heq⟩ | heq := s.noteArrival_cases k arrival
  · rw [heq]; exact h.fireArmed harmed
  · rwa [heq]

/-- A lane whose settings and characteristics stay. -/
theorem Keeps.setLane (h : Keeps s₀ s) (k : LaneId) (l : Lane) (settings : l.settings = s.lanes[k].settings)
    (chars : l.chars = s.lanes[k].chars) (tracking : RecordLaw s → TrackingLegal s.lanes[k] → TrackingLegal l) :
    Keeps s₀ (s.setLane k l) :=
  h.lane k l (fun _ hr => by rw [settings, chars]; exact hr.lane k) tracking fun _ hoff hon => by
    rw [settings, hon] at hoff
    cases hoff

theorem Keeps.laneResult (h : Keeps s₀ s) (k : LaneId) (r : LaneResult) : Keeps s₀ (s.laneResult k r) := by
  unfold State.laneResult
  dsimp only
  split
  case isTrue hon =>
    have hsetUp := takeResult_setUp { s.lanes[k] with due := false } r s.keyMap.ref
    exact (((h.setLane k _ (congrArg Prod.fst hsetUp) (congrArg (fun x => x.2.1) hsetUp) fun hrec htrack =>
      takeResult_legal (l := { s.lanes[k] with due := false }) (hrec.lane k).1 htrack hon r _).raiseLaneEvents k
        _).actVoices k).noteArrival k _
  case isFalse => exact h.setLane k _ rfl rfl fun _ htrack => htrack

/-! ### Pedals (R93, R122, R123, R180, R181) -/

/-- A step's move stays within the setlist (R122). -/
theorem decideStep_move_lt {l : Setlist} (hl : SetlistLegal l) {ask : StepAsk} {p : Nat} (h : decideStep l ask = .move p) :
    p < l.entries.length := by
  have moved {inside : Prop} [Decidable inside] {q n : Nat} {other : StepOutcome} (hq : inside → q < n) (hother : other = .move p → p < n)
      (htable : (if inside then .move q else other) = StepOutcome.move p) : p < n := by
    split at htable
    · exact StepOutcome.move.inj htable ▸ hq ‹_›
    · exact hother htable
  have wrapped {q n : Nat} (hq : q < n) (htable : (if l.wrap then .move q else .endReached) = StepOutcome.move p) : p < n :=
    moved (inside := l.wrap = true) (other := .endReached) (fun _ => hq) (fun h => StepOutcome.noConfusion h) htable
  unfold decideStep at h
  split at h
  case isTrue => cases h
  case isFalse hsome =>
    have hpos := Nat.pos_of_ne_zero hsome
    induction ask with
    | next => exact moved id (wrapped hpos) h
    | prev =>
      have hposition := hl.2.resolve_right fun hzero => hsome hzero.1
      exact moved (fun _ => (Nat.sub_le _ _).trans_lt hposition) (wrapped (Nat.sub_lt hpos Nat.one_pos)) h
    | goto q => exact moved (other := .beyond) id (fun h => StepOutcome.noConfusion h) h

theorem Keeps.moveTo (h : Keeps s₀ s) {ask : StepAsk} {p : Nat} (hmove : decideStep s.setlist ask = .move p) {src : Source}
    (hsrc : src ≠ .armedCue) (place : hasPlace s src = true) : Keeps s₀ (s.moveTo p) :=
  (h.stage (.take (sceneAt s.setlist p)) src hsrc place fun _ => rfl).setlist _ fun hl =>
    ⟨hl.1, .inl (decideStep_move_lt hl hmove)⟩

theorem Keeps.pedalStep (h : Keeps s₀ s) (p : PedalId) (ask : StepAsk) : Keeps s₀ (s.pedalStep p ask) := by
  obtain ⟨x, heq⟩ | heq | ⟨q, hmove, hplace, heq⟩ | ⟨_, heq⟩ := s.pedalStep_cases p ask <;> rw [heq]
  · exact h.raise _ _
  · exact h
  · exact h.moveTo (src := .pedal) hmove (by decide) hplace
  · exact h.raise _ _

theorem Keeps.pedalToggle (h : Keeps s₀ s) (p : PedalId) (k : LaneId) (g : LaneSettings → LaneSettings)
    (hg : ∀ st, (g st).dry = st.dry) : Keeps s₀ (s.pedalToggle p k g) := by
  obtain ⟨hplace, heq⟩ | ⟨_, heq⟩ := s.pedalToggle_cases p k g <;> rw [heq]
  · refine h.stage _ .pedal (by decide) hplace fun hr => decide_eq_true ?_
    rw [hg]
    exact ((h.recordLaw hr).lane k).2
  · exact h.raise _ _

theorem Keeps.clearChord (h : Keeps s₀ s) : Keeps s₀ { s with chord := clearChord s.chord } :=
  h.chord _ fun _ _ => ⟨Nat.zero_le _, List.nodup_nil, fun _ he => absurd he List.not_mem_nil,
    fun _ _ he => absurd he List.not_mem_nil⟩

theorem Keeps.runBinding (h : Keeps s₀ s) (p : PedalId) : Keeps s₀ (s.runBinding p) := by
  unfold State.runBinding
  split
  · exact h
  · exact h.pedalStep p _
  · exact h.pedalStep p _
  · exact h.pedalToggle p _ _ fun _ => rfl
  · exact h.pedalToggle p _ _ fun _ => rfl
  · split
    · exact h.fireArmed ‹_›
    · exact h
  · exact h.clearChord

theorem Keeps.pedalSample (h : Keeps s₀ s) (p : PedalId) (closed : Bool) : Keeps s₀ (State.pedalSample p s closed) := by
  unfold State.pedalSample State.takePedalChange
  dsimp only
  split
  · exact h.pedals _
  · split
    · split
      · exact ((h.pedals _).raise _ _).runBinding p
      · exact (h.pedals _).raise _ _
    · exact h.pedals _

end Sys2Proof.Machine
end

section
/-! PROOF. The cue link's rows keep every law (chapter 8). -/

namespace Sys2Proof.Machine

variable {s₀ s : State}

/-! ### The line (R137, R138) -/

theorem sampleLine_lineLegal {line : Line} (h : lineLegal line = true) (high : Bool) :
    lineLegal (sampleLine line high).1 = true := by
  let legal (r : Line × Option LineEvent) : Prop := lineLegal r.1 = true
  cases line with
  | waitHigh => exact h
  | idle => exact iteInduction (motive := legal) (fun _ => rfl) fun _ => rfl
  | receiving bits =>
    exact iteInduction (motive := legal) (fun hmore => decide_eq_true (List.length_append.le.trans hmore)) fun _ =>
      iteInduction (motive := legal) (fun _ => rfl) fun _ => rfl

theorem runLine_lineLegal {line : Line} (h : lineLegal line = true) (samples : List Bool) :
    lineLegal (runLine line samples).1 = true := by
  induction samples generalizing line with
  | nil => exact h
  | cons high rest ih => exact ih (sampleLine_lineLegal h high)

/-- A sample leaves the receiver waiting for a high line only with a framing fault, or where it waited before (R138). -/
theorem sampleLine_waitHigh {line : Line} {high : Bool} : (sampleLine line high).1 = .waitHigh →
    (sampleLine line high).2 = some .fault ∨ line = .waitHigh := by
  let faulty (r : Line × Option LineEvent) : Prop := r.1 = .waitHigh → r.2 = some .fault ∨ line = .waitHigh
  cases line with
  | waitHigh => exact .inr
  | idle => exact iteInduction (motive := faulty) (fun _ => Line.noConfusion) fun _ => Line.noConfusion
  | receiving bits =>
    exact iteInduction (motive := faulty) (fun _ => Line.noConfusion) fun _ =>
      iteInduction (motive := faulty) (fun _ => Line.noConfusion) fun _ _ => .inl rfl

/-- Without a framing fault among what they bring, samples never leave the receiver waiting for a high line (R138). -/
theorem runLine_waitHigh {line : Line} {samples : List Bool} (h : (runLine line samples).1 = .waitHigh)
    (hfault : .fault ∉ (runLine line samples).2) : line = .waitHigh := by
  induction samples generalizing line with
  | nil => exact h
  | cons high rest ih =>
    refine (sampleLine_waitHigh (ih h fun hmem => hfault (List.mem_append_right _ hmem))).resolve_left fun hone => ?_
    exact hfault (List.mem_append_left _ (hone ▸ List.mem_singleton_self _))

/-- A receiver that waits for a high line brings nothing (R138). -/
theorem runLine_waitHigh_events (samples : List Bool) : (runLine .waitHigh samples).2 = [] := by
  induction samples with
  | nil => rfl
  | cons high rest ih => exact ih

/-- The line becomes another that keeps the link's law. -/
theorem Keeps.setLine (h : Keeps s₀ s) {line : Line} (hlegal : lineLegal s.link.line = true → lineLegal line = true)
    (hwait : line = .waitHigh → s.link.line = .waitHigh) : Keeps s₀ (s.setLine line) :=
  h.link _ fun hlink => imp_fourth hlegal (imp_fifth (fun hhigh hw => hhigh (hwait hw)) hlink)

theorem Keeps.setPartial (h : Keeps s₀ s) {bytes : List Byte}
    (legal : partialLegal s.link.partialBytes = true → partialLegal bytes = true) (hline : s.link.line ≠ .waitHigh) :
    Keeps s₀ (s.setPartial bytes) :=
  h.link _ fun hlink => imp_third legal (imp_fifth (fun _ hw => absurd hw hline) hlink)

/-- The fault counts' range (R141). -/
abbrev FaultsLegal (c : FaultCounts) : Prop :=
  c.stray ≤ 255 ∧ c.framing ≤ 255 ∧ c.check ≤ 255 ∧ c.content ≤ 255 ∧ c.overrun ≤ 255

theorem FaultsLegal.zero : FaultsLegal .zero :=
  ⟨Nat.zero_le _, Nat.zero_le _, Nat.zero_le _, Nat.zero_le _, Nat.zero_le _⟩

theorem Keeps.setFaults (h : Keeps s₀ s) {c : FaultCounts} (legal : FaultsLegal s.link.faults → FaultsLegal c) :
    Keeps s₀ { s with link := { s.link with faults := c } } :=
  h.link _ (imp_afterSeventh legal)

theorem countFault_legal {c : FaultCounts} (h : FaultsLegal c) (k : LinkFault) : FaultsLegal (countFault c k) := by
  cases k
  · exact h.imp_left fun _ => Nat.min_le_left _ _
  · exact h.imp_right (.imp_left fun _ => Nat.min_le_left _ _)
  · exact imp_third (fun _ => Nat.min_le_left _ _) h
  · exact imp_fourth (fun _ => Nat.min_le_left _ _) h
  · exact h.imp_right (.imp_right (.imp_right (.imp_right fun _ => Nat.min_le_left _ _)))

theorem Keeps.linkFault (h : Keeps s₀ s) (k : LinkFault) : Keeps s₀ (s.linkFault k) :=
  (h.setFaults fun hfaults => countFault_legal hfaults k).raise _ _

theorem Keeps.framingFault (h : Keeps s₀ s) : Keeps s₀ s.framingFault :=
  Keeps.linkFault (h.link { s.link with line := .waitHigh, partialBytes := [] }
    fun hlink => imp_third (fun _ => rfl) (imp_fourth (fun _ => rfl) (imp_fifth (fun _ _ => rfl) hlink))) .framing

/-- A cue-link row keeps the laws where its act on the byte does. -/
theorem Keeps.lineRow (h : Keeps s₀ s) (samples : List Bool) (act : State → Byte → Option State)
    (hact : ∀ u b t, Keeps s₀ u → u.link.line ≠ .waitHigh → act u b = some t → Keeps s₀ t) :
    Keeps s₀ (s.lineRow samples act) := by
  have hset {line : Line} {events : List LineEvent} (hrun : runLine s.link.line samples = (line, events))
      (hnone : .fault ∉ events) : Keeps s₀ (s.setLine line) :=
    h.setLine (fun hl => (congrArg (fun r => lineLegal r.1 = true) hrun).mp (runLine_lineLegal hl samples)) fun hw =>
      runLine_waitHigh (samples := samples) (hrun ▸ hw) (hrun ▸ hnone)
  obtain heq | ⟨_, line, hrun, heq⟩ | ⟨_, _, heq⟩ | ⟨_, line, b, t, hrun, hsome, heq⟩ := s.lineRow_cases samples act
  · exact heq.symm ▸ h
  · exact heq ▸ hset hrun List.not_mem_nil
  · exact heq ▸ h.framingFault
  · have hnone : LineEvent.fault ∉ [.byte b] := fun hmem => LineEvent.noConfusion (List.mem_singleton.1 hmem)
    have hline : line ≠ .waitHigh := fun hw => by
      have hbefore := runLine_waitHigh (line := s.link.line) (samples := samples) (hrun ▸ hw) (hrun ▸ hnone)
      exact List.cons_ne_nil _ _ ((congrArg Prod.snd hrun).symm.trans (hbefore ▸ runLine_waitHigh_events samples))
    exact heq ▸ hact _ b t (hset hrun hnone) hline hsome

/-- A start byte begins a partial message (R139). -/
theorem partialLegal_start {b : Byte} (h : b.msb = true) : partialLegal [b] = true :=
  (Bool.and_true _).trans ((Bool.and_true _).trans h)

theorem Keeps.actStray (h : Keeps s₀ s) (hline : s.link.line ≠ .waitHigh) {b : Byte} {t : State}
    (ht : actStray s b = some t) : Keeps s₀ t := by
  obtain ⟨_, ⟨⟩⟩ := Option.ite_none_right_eq_some.1 ht
  exact (h.setPartial (fun _ => iteInduction (motive := fun l => partialLegal l = true) partialLegal_start fun _ => rfl)
    hline).linkFault _

/-- A partial message extended by a data byte, with room for it, is a partial message (R139). -/
theorem partialLegal_concat {b : Byte} (hdata : b.msb = false) : ∀ {bytes : List Byte}, partialLegal bytes = true →
    bytes.length = 1 ∨ bytes.length = 2 → partialLegal (bytes ++ [b]) = true
  | [], _, hlength => hlength.elim (fun h => nomatch h) fun h => nomatch h
  | _ :: _, h, hlength => by
    obtain ⟨hstart, hrest⟩ := Bool.and_eq_true_iff.1 h
    have hshort := hlength.elim (fun h => (Nat.succ.inj h).trans_le (Nat.zero_le 1)) fun h => (Nat.succ.inj h).le
    exact Bool.and_eq_true_iff.2 ⟨Bool.and_eq_true_iff.2 ⟨(Bool.and_eq_true_iff.1 hstart).1,
      decide_eq_true (List.length_append.le.trans (Nat.succ_le_succ hshort))⟩, List.all_append.trans
        (Bool.and_eq_true_iff.2 ⟨hrest, (Bool.and_true _).trans (congrArg Bool.not hdata)⟩)⟩

/-- A byte that begins or extends a partial message leaves a partial message (R139). -/
theorem partialLegal_append {b : Byte} (h : partialLegal s.link.partialBytes = true) (hextends : extendsPartial s b = true) :
    partialLegal (s.link.partialBytes ++ [b]) = true := by
  obtain ⟨hstart, hempty⟩ | ⟨hdata, hlength⟩ := ite_eq_iff.1 hextends
  · exact (List.isEmpty_iff.1 hempty).symm ▸ partialLegal_start hstart
  · exact partialLegal_concat (Bool.eq_false_of_not_eq_true hdata) h
      ((Bool.or_eq_true_iff.1 hlength).imp of_decide_eq_true of_decide_eq_true)

theorem Keeps.actPartialMessage (h : Keeps s₀ s) (hline : s.link.line ≠ .waitHigh) {b : Byte} {t : State}
    (ht : actPartialMessage s b = some t) : Keeps s₀ t := by
  obtain ⟨hextends, ⟨⟩⟩ := Option.ite_none_right_eq_some.1 ht
  exact h.setPartial (fun hpartial => partialLegal_append hpartial hextends) hline

/-! ### Messages (R140, R142, R145) -/

/-- CUE_HOLD follows the FIFO's depth (R145). -/
theorem holdAfter_legal (depth : Nat) (hold : Bool) :
    (12 ≤ depth → holdAfter depth hold = true) ∧ (depth ≤ 8 → holdAfter depth hold = false) := by
  unfold holdAfter
  constructor
  · intro h; rw [if_pos h]
  · intro h; rw [if_neg fun hdeep => absurd (hdeep.trans h) (by decide), if_pos h]

theorem Keeps.setFifo (h : Keeps s₀ s) {fifo : List CueMessage}
    (size : s.link.fifo.length ≤ 16 → fifo.length ≤ 16)
    (messages : (∀ m ∈ s.link.fifo, messageLegal m = true) → ∀ m ∈ fifo, messageLegal m = true)
    (waits : s.link.headWaits = true → fifo ≠ []) : Keeps s₀ (s.setFifo fifo) :=
  h.link _ fun hl => .imp size (.imp_left messages)
    (imp_sixth (fun _ => waits) (imp_seventh (fun _ _ => holdAfter_legal _ _) hl))

theorem all_legal_ite {p : Prop} [Decidable p] {a b : Option CueMessage} (ha : a.all messageLegal = true)
    (hb : b.all messageLegal = true) : (if p then a else b).all messageLegal = true := by
  split
  · exact ha
  · exact hb

/-- A message that passes the content check is a legal one (R140): a key's note is at most 119. -/
theorem messageOf?_all_legal (start d1 : Byte) : (messageOf? start d1).all messageLegal = true := by
  have keyed (make : Nat → CueMessage) (hmake : ∀ n, messageLegal (make n) = decide (n < 120)) :
      (if d1.toNat ≤ 119 then some (make d1.toNat) else none).all messageLegal = true := by
    split
    · exact (hmake _).trans (decide_eq_true (Nat.lt_succ_of_le ‹_›))
    · rfl
  have mapped {α : Type} (o : Option α) (make : α → CueMessage) (hmake : ∀ a, messageLegal (make a) = true) :
      (o.map make).all messageLegal = true := by
    induction o with
    | none => rfl
    | some a => exact hmake a
  unfold messageOf?
  exact all_legal_ite (keyed .keyDown fun _ => rfl) (all_legal_ite (keyed .keyUp fun _ => rfl) (all_legal_ite rfl
    (all_legal_ite (mapped _ .latch fun _ => rfl) (all_legal_ite (mapped _ .sceneCue fun _ => rfl)
    (all_legal_ite (all_legal_ite rfl (all_legal_ite rfl rfl)) (all_legal_ite rfl rfl))))))

theorem messageOf?_legal {start d1 : Byte} {m : CueMessage} (h : messageOf? start d1 = some m) : messageLegal m = true := by
  have hall := messageOf?_all_legal start d1
  rwa [h] at hall

theorem Keeps.examine (h : Keeps s₀ s) (hline : s.link.line ≠ .waitHigh) (a b c d : Byte) : Keeps s₀ (s.examine a b c d) := by
  have hopen := h.setPartial (bytes := []) (fun _ => rfl) hline
  obtain ⟨k, _, heq⟩ | ⟨m, hm, hroom, heq⟩ := s.examine_cases a b c d
  · exact heq ▸ hopen.linkFault k
  · exact heq ▸ hopen.setFifo (fun _ => List.length_append.le.trans hroom)
      (fun hold => List.forall_mem_append.2 ⟨hold, List.forall_mem_singleton.2 (messageOf?_legal hm)⟩)
      fun _ => List.append_ne_nil_of_right_ne_nil _ (List.cons_ne_nil _ _)

theorem Keeps.actCueLinkMessage (h : Keeps s₀ s) (hline : s.link.line ≠ .waitHigh) {b : Byte} {t : State}
    (ht : actCueLinkMessage s b = some t) : Keeps s₀ t := by
  unfold Machine.actCueLinkMessage at ht
  generalize s.link.partialBytes = bytes at ht
  rcases bytes with _ | ⟨start, _ | ⟨d1, _ | ⟨d2, _ | _⟩⟩⟩
  case cons.cons.cons.nil =>
    obtain ⟨_, heq⟩ := ite_eq_iff.1 ht |>.resolve_left fun hnone => Option.some_ne_none _ hnone.2.symm
    cases heq
    exact h.examine hline _ _ _ _
  all_goals cases ht

theorem Keeps.lineHigh (h : Keeps s₀ s) : Keeps s₀ s.lineHigh :=
  h.link _ fun hlink => imp_third (fun _ => rfl) (imp_fourth (fun _ => rfl) (imp_fifth (fun _ => Line.noConfusion) hlink))

/-! ### The handler (R143, R144, R147 to R149) -/

/-- The handler's message is the head of a FIFO that does not wait. -/
theorem handlerHead_eq_some {m : CueMessage} (h : handlerHead s = some m) :
    s.inReset = false ∧ s.link.headWaits = false ∧ ∃ rest, s.link.fifo = m :: rest := by
  unfold handlerHead at h
  split at h
  · cases h
  · rename_i hready
    obtain ⟨hrunning, hwaits⟩ := Bool.or_eq_false_iff.1 (Bool.eq_false_of_not_eq_true hready)
    exact ⟨hrunning, hwaits, List.head?_eq_some_iff.1 h⟩

theorem Keeps.popHead (h : Keeps s₀ s) (hready : s.link.headWaits = false) : Keeps s₀ s.popHead :=
  h.setFifo (fun hsize => List.length_tail.le.trans ((Nat.sub_le _ _).trans hsize))
    (fun hmessages m hm => hmessages m (List.mem_of_mem_tail hm)) fun hw => absurd (hready.symm.trans hw) Bool.false_ne_true

theorem Keeps.waitHead (h : Keeps s₀ s) (hfifo : s.link.fifo ≠ []) : Keeps s₀ s.waitHead :=
  h.link _ (imp_sixth fun _ _ => hfifo)

/-- The chord set's own law (R146), which is the state's. -/
def ChordLegal (c : ChordSet) : Prop :=
  c.entries.length ≤ 8 ∧ (c.entries.map ChordEntry.note).Nodup ∧ (∀ e ∈ c.entries, e.note < 120) ∧
  (c.latch = false → ∀ e ∈ c.entries, e.down = true)

theorem chordLaw_iff (s : State) : ChordLaw s ↔ ChordLegal s.chord := Iff.rfl

/-- A chord set whose entries are a subset of a legal one's, with its latch, is legal. -/
theorem ChordLegal.sublist {c d : ChordSet} (h : ChordLegal d) (hentries : c.entries.Sublist d.entries)
    (hdown : c.latch = false → d.latch = true → ∀ e ∈ c.entries, e.down = true) : ChordLegal c :=
  .imp hentries.length_le.trans (.imp (.sublist (hentries.map _)) (.imp (fun hnotes e he => hnotes e (hentries.subset he))
    fun hreleased hoff => (Bool.eq_false_or_eq_true d.latch).elim (hdown hoff) fun hlatch e he =>
      hreleased hlatch e (hentries.subset he))) h

theorem setLatch_legal {c : ChordSet} (h : ChordLegal c) (on : Bool) : ChordLegal (setLatch c on) := by
  cases on
  · exact h.sublist List.filter_sublist fun _ _ _ he => (List.mem_filter.1 he).2
  · exact h.sublist (List.Sublist.refl _) fun hoff => Bool.noConfusion hoff

/-- An entry whose note goes down or up. -/
def setDown (note : Nat) (down : Bool) (e : ChordEntry) : ChordEntry := if e.note = note then { e with down := down } else e

/-- Entries that go down or up keep their notes. -/
theorem setDown_note (note : Nat) (down : Bool) (e : ChordEntry) : (setDown note down e).note = e.note :=
  iteInduction (motive := fun x : ChordEntry => x.note = e.note) (fun _ => rfl) fun _ => rfl

/-- Entries that go down or up, of a legal set. -/
theorem ChordLegal.setDown {l : List ChordEntry} {latch : Bool} (h : ChordLegal { entries := l, latch := latch })
    (note : Nat) (down : Bool) (hdown : latch = false → down = true) :
    ChordLegal { entries := l.map (Machine.setDown note down), latch := latch } :=
  .imp ((List.length_map _).le.trans ·) (.imp ((List.map_map.trans (List.map_congr_left fun e _ => setDown_note note down e)).symm ▸ ·)
    (.imp (fun hnotes => List.forall_mem_map.2 fun e he => (setDown_note note down e).trans_lt (hnotes e he))
      fun hreleased hoff => List.forall_mem_map.2 fun e he =>
        iteInduction (motive := fun x : ChordEntry => x.down = true) (fun _ => hdown hoff) fun _ => hreleased hoff e he)) h

theorem keyUpChord_legal {c : ChordSet} (h : ChordLegal c) (note : Nat) : ChordLegal (keyUpChord c note) :=
  iteInduction (motive := ChordLegal) (fun hlatch => h.setDown note false fun hoff => absurd (hoff.symm.trans hlatch) Bool.false_ne_true)
    fun hlatch => h.sublist List.filter_sublist fun _ hl => absurd hl hlatch

theorem keptEntries_sublist (c : ChordSet) : (keptEntries c).Sublist c.entries := by
  unfold keptEntries
  split
  · exact List.nil_sublist _
  · exact List.Sublist.refl _

/-- A note that no entry has goes down in a set with room for it (R147). -/
theorem ChordLegal.append {l : List ChordEntry} {latch : Bool} (h : ChordLegal { entries := l, latch := latch })
    (hroom : l.length < 8) {note : Nat} (hnote : note < 120) (hfresh : ∀ e ∈ l, e.note ≠ note) :
    ChordLegal { entries := l ++ [{ note := note, down := true }], latch := latch } :=
  .imp (fun _ => List.length_append.le.trans hroom) (.imp
    (fun hnodup => List.map_append ▸ List.nodup_append.2 ⟨hnodup, List.nodup_singleton _, List.forall_mem_map.2 fun e he _ hb =>
      List.mem_singleton.1 hb ▸ hfresh e he⟩)
    (.imp (fun hnotes => List.forall_mem_append.2 ⟨hnotes, List.forall_mem_singleton.2 hnote⟩)
      fun hdown hoff => List.forall_mem_append.2 ⟨hdown hoff, List.forall_mem_singleton.2 rfl⟩)) h

/-- The entries left when the oldest of a full set is dropped (R147). -/
theorem dropOldest_sublist_length (l : List ChordEntry) (hsize : l.length ≤ 8) :
    (if 8 ≤ l.length then l.drop 1 else l).Sublist l ∧ (if 8 ≤ l.length then l.drop 1 else l).length < 8 := by
  split
  · exact ⟨List.drop_sublist _ _, List.length_drop.trans_lt (Nat.lt_succ_of_le (Nat.sub_le_sub_right hsize 1))⟩
  · exact ⟨List.Sublist.refl _, Nat.lt_of_not_le ‹_›⟩

theorem keyDownChord_legal {c : ChordSet} (h : ChordLegal c) {note : Nat} (hnote : note < 120) : ChordLegal (keyDownChord c note) := by
  let legal (l : List ChordEntry) : Prop := ChordLegal { entries := l, latch := c.latch }
  have released {l : List ChordEntry} (hl : l.Sublist c.entries) : legal l :=
    h.sublist hl fun hoff hlatch => absurd (hoff.symm.trans hlatch) Bool.false_ne_true
  have hkept := keptEntries_sublist c
  refine keyDownChord_eq c note ▸ iteInduction (motive := legal) (fun _ => (released hkept).setDown note true fun _ => rfl) fun hfresh => ?_
  obtain ⟨hsub, hroom⟩ := dropOldest_sublist_length (keptEntries c) (hkept.length_le.trans h.1)
  exact (released (hsub.trans hkept)).append hroom hnote fun e he hsame => hfresh ⟨e, hsub.subset he, hsame⟩

/-- A chord message leaves the FIFO in the act of its effect (R143). -/
theorem Keeps.chordMessage (h : Keeps s₀ s) {m : CueMessage} (hm : handlerHead s = some m) (c : ChordSet)
    (keeps : messageLegal m = true → ChordLegal s.chord → ChordLegal c) : Keeps s₀ { s.popHead with chord := c } := by
  obtain ⟨_, hready, _, hfifo⟩ := handlerHead_eq_some hm
  exact Keeps.popHead (h.chord c fun hlink => keeps (hlink.2.1 m (hfifo ▸ List.mem_cons_self))) hready

theorem Keeps.linkStep (h : Keeps s₀ s) {forward : Bool} (hm : handlerHead s = some (.setlistStep forward)) :
    Keeps s₀ (s.linkStep forward) := by
  obtain ⟨_, hready, _, hfifo⟩ := handlerHead_eq_some hm
  have hpopped := h.popHead hready
  unfold State.linkStep
  split
  · exact hpopped.raise _ _
  · exact h
  · rename_i p hmove
    split
    · exact hpopped.moveTo hmove (src := .cueLink) (by decide) ‹_›
    · exact h.waitHead (hfifo ▸ List.cons_ne_nil _ _)
  · exact hpopped.raise _ _

end Sys2Proof.Machine
end

section
/-! PROOF. What the operand forms let through: every value that is stored has the range it was checked or clamped to (R21, R44, R64,
R99, R105, R110, R120). -/

namespace Sys2Proof.Machine

/-! ### Templates and modifications (R44, R45, R64) -/

theorem not_error_eq_ok {α : Type} {e : Nat} {a : α} (h : (.error e : Except Nat α) = .ok a) : False := by cases h

theorem ok_of_ite {α : Type} {p : Prop} [Decidable p] {e : Nat} {x : Except Nat α} {a : α}
    (h : (if p then .error e else x) = .ok a) : ¬p ∧ x = .ok a := by
  obtain ⟨_, h⟩ | h := ite_eq_iff.1 h
  · exact (not_error_eq_ok h).elim
  · exact h

theorem ok_of_ite_ok {α : Type} {p : Prop} [Decidable p] {e : Nat} {x a : α}
    (h : (if p then .ok x else .error e : Except Nat α) = .ok a) : p ∧ x = a := by
  obtain ⟨hp, h⟩ | ⟨_, h⟩ := ite_eq_iff.1 h
  · exact ⟨hp, Except.ok.inj h⟩
  · exact (not_error_eq_ok h).elim

theorem ok_of_bind {α β : Type} {x : Except Nat α} {f : α → Except Nat β} {b : β} (h : x.bind f = .ok b) :
    ∃ a, x = .ok a ∧ f a = .ok b := by
  induction x with
  | error e => exact (not_error_eq_ok h).elim
  | ok a => exact ⟨a, rfl, h⟩

theorem ruleOf_legal {kind b : Byte} {r : RuleKind × Int} (h : ruleOf kind b = .ok r) : operandAllowed r.1 r.2 = true := by
  unfold ruleOf at h
  generalize ruleKindOf? kind = o at h
  induction o with
  | none => exact (not_error_eq_ok h).elim
  | some k =>
    obtain ⟨hallowed, rfl⟩ := ok_of_ite_ok h
    exact hallowed

theorem fallbackOf_legal {b : Byte} {z : Int} (h : fallbackOf b = .ok z) : -14 ≤ z ∧ z ≤ 14 := by
  obtain ⟨hz, rfl⟩ := ok_of_ite_ok h
  exact hz

theorem rangeOf_legal {lo hi : Byte} {r : Nat × Nat} (h : rangeOf lo hi = .ok r) :
    12 ≤ r.1 ∧ r.1 + 12 ≤ r.2 ∧ r.2 ≤ 108 := by
  obtain ⟨hlo, h⟩ := ok_of_ite h
  obtain ⟨hhi, h⟩ := ok_of_ite h
  obtain ⟨hhi, hwide⟩ := not_or.1 hhi
  exact Except.ok.inj h ▸ ⟨(not_not.1 hlo).1, Nat.le_of_not_lt hwide, (not_not.1 hhi).2⟩

theorem clampInt_bounds {lo hi : Int} (h : lo ≤ hi) (x : Int) : lo ≤ clampInt lo hi x ∧ clampInt lo hi x ≤ hi :=
  ⟨le_max_left _ _, max_le h (min_le_left _ _)⟩

theorem detuneOf_legal (b : Byte) : -50 ≤ detuneOf b ∧ detuneOf b ≤ 50 := clampInt_bounds (by decide) _

theorem byte_le (b : Byte) : b.toNat ≤ 255 := Nat.le_of_lt_succ b.isLt

theorem stepOf_legal (b : Byte) : 1 ≤ stepOf b ∧ stepOf b ≤ 255 := ⟨le_max_left _ _, max_le (by decide) (byte_le b)⟩

theorem levelOf_le (hi lo : Byte) : levelOf hi lo ≤ 4096 := Nat.min_le_left _ _

section
variable {b : Nat → Byte} {k : LaneId}

/-- The template that is stored when its refusable fields have passed. -/
noncomputable def storedTemplate (b : Nat → Byte) (k : LaneId) (rule : RuleKind × Int) (fallback : Int) (range : Nat × Nat)
    (group : Group) : Template :=
  { tag := (b 0).toNat, lane := k, rule := rule.1, operand := rule.2, fallback := fallback, follow := followOf (b 5)
    detune := detuneOf (b 6), lo := range.1, hi := range.2, glide := glideOf (b 9), level := levelOf (b 10) (b 11)
    pan := panOf (b 12), group := group, attack := stepOf (b 14), release := stepOf (b 15) }

/-- Once tag and lane have passed, the fields are examined one after another. -/
theorem templateOf_eq (htag : b 0 ≠ 0) : templateOf b (some k) = (ruleOf (b 2) (b 3)).bind fun rule =>
    (fallbackOf (b 4)).bind fun fallback => (rangeOf (b 7) (b 8)).bind fun range => (groupOf (b 13)).bind fun group =>
      .ok (storedTemplate b k rule fallback range group) := by
  refine (if_neg htag).trans ?_
  generalize ruleOf (b 2) (b 3) = r, fallbackOf (b 4) = z, rangeOf (b 7) (b 8) = p, groupOf (b 13) = g
  induction r with
  | error e => exact Eq.refl (Except.error e)
  | ok rule =>
    induction z with
    | error e => exact Eq.refl (Except.error e)
    | ok fallback =>
      induction p with
      | error e => exact Eq.refl (Except.error e)
      | ok range =>
        induction g with
        | error e => exact Eq.refl (Except.error e)
        | ok group => exact Eq.refl (Except.ok (storedTemplate b k rule fallback range group))

end

theorem templateOf_legal {b : Nat → Byte} {lane : Option LaneId} {t : Template} (h : templateOf b lane = .ok t) :
    TemplateLegal t ∧ lane = some t.lane := by
  obtain ⟨htag, hrest⟩ := ok_of_ite h
  induction lane with
  | none => exact (not_error_eq_ok hrest).elim
  | some k =>
    obtain ⟨rule, hrule, h⟩ := ok_of_bind ((templateOf_eq htag).symm.trans h)
    obtain ⟨fallback, hfallback, h⟩ := ok_of_bind h
    obtain ⟨range, hrange, h⟩ := ok_of_bind h
    obtain ⟨group, _, h⟩ := ok_of_bind h
    have htagMin : 1 ≤ (b 0).toNat := Nat.pos_of_ne_zero fun hz => htag (BitVec.eq_of_toNat_eq hz)
    exact Except.ok.inj h ▸ ⟨⟨⟨htagMin, byte_le _⟩, ruleOf_legal hrule, fallbackOf_legal hfallback, Nat.min_le_left _ _,
      detuneOf_legal _, rangeOf_legal hrange, Nat.min_le_left _ _, levelOf_le _ _, Nat.min_le_left _ _, stepOf_legal _,
      stepOf_legal _⟩, rfl⟩

theorem exists_of_map_eq_ok {α β : Type} {f : α → β} {x : Except Nat α} {b : β} (h : x.map f = .ok b) :
    ∃ a, x = .ok a ∧ f a = b := by
  induction x with
  | error e => cases h
  | ok a => exact ⟨a, rfl, Except.ok.inj h⟩

theorem both_of_and {p q : Prop} [Decidable p] [Decidable q] (h : p ∧ q) : (decide p && decide q) = true :=
  Bool.and_eq_true_iff.2 ⟨decide_eq_true h.1, decide_eq_true h.2⟩

/-- A modification that is asked for, if there is one, has passed its check. -/
def Passes (o : Option (Except Nat Modification)) : Prop := ∀ m, o = some (.ok m) → modificationLegal m = true

theorem passes_ite {p : Prop} [Decidable p] {a b : Option (Except Nat Modification)} (ha : Passes a) (hb : Passes b) :
    Passes (if p then a else b) := by
  split
  · exact ha
  · exact hb

theorem passes_ok {m : Modification} (h : modificationLegal m = true) : Passes (some (.ok m)) := fun _ hm =>
  Except.ok.inj (Option.some.inj hm) ▸ h

theorem passes_map {α : Type} {x : Except Nat α} {make : α → Modification}
    (h : ∀ a, x = .ok a → modificationLegal (make a) = true) : Passes (some (x.map make)) := fun _ hm => by
  obtain ⟨a, ha, rfl⟩ := exists_of_map_eq_ok (Option.some.inj hm)
  exact h a ha

/-- What a MODIFY asks for has passed the check of its field (R64). -/
theorem modificationOf_legal (field hi lo : Byte) : Passes (modificationOf field hi lo) := by
  have range (r : Nat × Nat) (hr : rangeOf hi lo = .ok r) : modificationLegal (.range r.1 r.2) = true := by
    obtain ⟨hlow, hwide, hhigh⟩ := rangeOf_legal hr
    exact Bool.and_eq_true_iff.2 ⟨both_of_and ⟨hlow, hwide⟩, decide_eq_true hhigh⟩
  unfold modificationOf
  refine passes_ite (passes_map fun _ => ruleOf_legal) (passes_ite (passes_map fun _ hz => both_of_and (fallbackOf_legal hz)) ?_)
  refine passes_ite (passes_ok (decide_eq_true (Nat.min_le_left _ _))) (passes_ite (passes_ok (both_of_and (detuneOf_legal lo))) ?_)
  refine passes_ite (passes_map range) (passes_ite (passes_ok (decide_eq_true (Nat.min_le_left _ _))) ?_)
  refine passes_ite (passes_ok (decide_eq_true (levelOf_le hi lo))) (passes_ite (passes_ok (decide_eq_true (Nat.min_le_left _ _))) ?_)
  refine passes_ite (passes_map fun _ _ => rfl) (passes_ite (passes_ok (both_of_and (stepOf_legal lo))) ?_)
  exact passes_ite (passes_ok (both_of_and (stepOf_legal lo))) fun _ h => absurd h.symm (Option.some_ne_none _)

/-! ### Lanes (R21, R99) -/

theorem laneCharsOf_legal {f : CommandFrame} {c : LaneChars} (h : laneCharsOf f = .ok c) : CharsLegal c := by
  obtain ⟨hlimits, h⟩ := ok_of_ite h
  obtain ⟨hconfirm, h⟩ := ok_of_ite h
  obtain ⟨hpersist, h⟩ := ok_of_ite h
  exact Except.ok.inj h ▸ ⟨⟨(clampInt_bounds (by decide) _).1, Int.lt_of_not_ge hlimits, (clampInt_bounds (by decide) _).2⟩,
    byte_le _, Nat.min_le_left _ _, ⟨le_max_left _ _, Nat.le_of_not_lt hconfirm⟩, Nat.min_le_left _ _,
    ⟨le_max_left _ _, Nat.le_of_not_lt hpersist⟩, byte_le _, stepOf_legal _⟩

theorem laneSettingsOf_legal {f : CommandFrame} {st : LaneSettings} (h : laneSettingsOf f = .ok st) : st.dry ≤ 4096 := by
  unfold laneSettingsOf at h
  generalize flagOf? (operand f 1).toNat = on, flagOf? (operand f 2).toNat = bypass, flagOf? (operand f 3).toNat = freeze at h
  induction on with
  | none => exact (not_error_eq_ok h).elim
  | some on =>
    induction bypass with
    | none => exact (not_error_eq_ok h).elim
    | some bypass =>
      induction freeze with
      | none => exact (not_error_eq_ok h).elim
      | some freeze => exact Except.ok.inj h ▸ levelOf_le _ _

/-! ### Key maps, scenes, the setlist (R105, R110, R120) -/

theorem keyMapOf_legal {tonic hi lo ref : Byte} {k : KeyMap} (h : keyMapOf tonic hi lo ref = .ok k) : KeyMapLegal k := by
  unfold keyMapOf at h
  generalize tonicOf? tonic = o at h
  induction o with
  | none => exact (not_error_eq_ok h).elim
  | some t =>
    obtain ⟨_, h⟩ := ok_of_ite h
    have htonic : (BitVec.ofNat 12 (unsigned16 hi lo) ||| BitVec.twoPow 12 t.val).getLsbD t.val = true := by
      rw [BitVec.getLsbD_or, BitVec.getLsbD_twoPow, decide_eq_true t.isLt, decide_eq_true (Eq.refl t.val), Bool.true_and,
        Bool.or_true]
    exact Except.ok.inj h ▸ ⟨htonic, clampInt_bounds (by decide) _⟩

/-- Templates that have passed, each on a lane that is ON, no two with one lane and tag (R110, field 9). -/
def TemplatesPassed (lanes : Vector SceneLane 4) (l : List Template) : Prop :=
  (∀ t ∈ l, TemplateLegal t ∧ lanes[t.lane].on = true) ∧ (l.map fun t => (t.lane, t.tag)).Nodup

/-- The template `t` of a scene record, examined. -/
noncomputable def examinedTemplate (f : CommandFrame) (t : Nat) : Except Nat Template :=
  templateOf (fun i => dataByte f (18 + 16 * t + i)) (laneOf? (dataByte f (18 + 16 * t + 1)))

section
variable {f : CommandFrame} {lanes : Vector SceneLane 4} {todo : Nat} {done : List Template}

theorem sceneTemplatesOf_succ {r : Except Nat Template} : examinedTemplate f done.length = r →
    sceneTemplatesOf f lanes (todo + 1) done = match r with
      | .error e => .error (16 + 16 * done.length + e)
      | .ok t => if !lanes[t.lane].on then .error (16 + 16 * done.length + 1)
        else if done.any (fun d => d.tag = t.tag && d.lane = t.lane) then .error (16 + 16 * done.length)
        else sceneTemplatesOf f lanes todo (done ++ [t]) := by
  rintro rfl
  rfl

theorem TemplatesPassed.append {t : Template} (h : TemplatesPassed lanes done) (hlegal : TemplateLegal t)
    (hon : ¬(!lanes[t.lane].on) = true) (hfresh : ¬done.any (fun d => d.tag = t.tag && d.lane = t.lane) = true) :
    TemplatesPassed lanes (done ++ [t]) := by
  obtain ⟨hall, hnodup⟩ := h
  refine ⟨List.forall_mem_append.2 ⟨hall, List.forall_mem_singleton.2 ⟨hlegal, eq_true_of_ne_false fun hoff =>
    hon (congrArg (!·) hoff)⟩⟩, List.map_append ▸ List.nodup_append.2 ⟨hnodup, List.nodup_singleton _, fun a ha b hb hab => ?_⟩⟩
  obtain ⟨x, hx, rfl⟩ := List.mem_map.1 ha
  obtain ⟨hlane, htag⟩ := Prod.mk.inj (hab.trans (List.mem_singleton.1 hb))
  exact hfresh (List.any_eq_true.2 ⟨x, hx, both_of_and ⟨htag, hlane⟩⟩)

end

theorem sceneTemplatesOf_passed {f : CommandFrame} {lanes : Vector SceneLane 4} {todo : Nat} {done l : List Template}
    (hdone : TemplatesPassed lanes done) (h : sceneTemplatesOf f lanes todo done = .ok l) :
    TemplatesPassed lanes l ∧ l.length = done.length + todo := by
  induction todo generalizing done with
  | zero => exact Except.ok.inj h ▸ ⟨hdone, rfl⟩
  | succ todo ih =>
    generalize hexamined : examinedTemplate f done.length = r
    replace h := (sceneTemplatesOf_succ hexamined).symm.trans h
    induction r with
    | error e => exact (not_error_eq_ok h).elim
    | ok t =>
      obtain ⟨hon, h⟩ := ok_of_ite h
      obtain ⟨hfresh, h⟩ := ok_of_ite h
      obtain ⟨hpassed, hlength⟩ := ih (hdone.append (templateOf_legal hexamined).1 hon hfresh) h
      exact ⟨hpassed, hlength.trans ((congrArg (· + todo) List.length_append).trans (Nat.succ_add_eq_add_succ _ _))⟩

theorem sceneLanes_dry_le (f : CommandFrame) (k : LaneId) :
    #v[sceneLaneAt f 0, sceneLaneAt f 1, sceneLaneAt f 2, sceneLaneAt f 3][k].dry ≤ 4096 := by
  obtain rfl | rfl | rfl | rfl := lane_cases k
  all_goals exact levelOf_le _ _

theorem sceneOf_legal {f : CommandFrame} {sc : Scene} (h : sceneOf f = .ok sc) : SceneLegal sc := by
  unfold sceneOf at h
  generalize hkey : keyMapOf _ _ _ _ = key, takeModeOf? _ = mode, badLaneNibble f 1 = onBad, badLaneNibble f 16 = bypassBad at h
  induction key with
  | error e => exact (not_error_eq_ok h).elim
  | ok keyMap =>
    induction mode with
    | none => exact (not_error_eq_ok h).elim
    | some mode =>
      obtain ⟨hcount, h⟩ := ok_of_ite h
      induction onBad with
      | some k => exact (not_error_eq_ok h).elim
      | none =>
        induction bypassBad with
        | some k => exact (not_error_eq_ok h).elim
        | none =>
          obtain ⟨l, htemplates, rfl⟩ := exists_of_map_eq_ok h
          obtain ⟨⟨hall, hnodup⟩, hlength⟩ := sceneTemplatesOf_passed ⟨fun _ ht => absurd ht List.not_mem_nil, List.nodup_nil⟩ htemplates
          exact ⟨keyMapOf_legal hkey, sceneLanes_dry_le f, (hlength.trans (Nat.zero_add _)).trans_le (Nat.le_of_not_lt hcount),
            hall, hnodup⟩

theorem setlistEntriesOf_length {f : CommandFrame} {n i : Nat} {l : List SceneId} (h : setlistEntriesOf f n i = .ok l) :
    l.length = n := by
  induction n generalizing i l with
  | zero => exact Except.ok.inj h ▸ rfl
  | succ n ih =>
    rw [setlistEntriesOf] at h
    generalize sceneOf? _ = scene at h
    induction scene with
    | none => exact (not_error_eq_ok h).elim
    | some scene =>
      obtain ⟨rest, hrest, rfl⟩ := exists_of_map_eq_ok h
      exact congrArg (· + 1) (ih hrest)

theorem setlistOf_legal {f : CommandFrame} {l : Setlist} (h : setlistOf f = .ok l) : SetlistLegal l := by
  obtain ⟨hcount, h⟩ := ok_of_ite h
  generalize flagOf? _ = wrap at h
  induction wrap with
  | none => exact (not_error_eq_ok h).elim
  | some wrap =>
    obtain ⟨entries, hentries, rfl⟩ := exists_of_map_eq_ok h
    have hlength := setlistEntriesOf_length hentries
    exact ⟨hlength.trans_le (Nat.le_of_not_lt hcount), (Nat.eq_zero_or_pos (operand f 0).toNat).symm.imp
      (fun hpos => hpos.trans_eq hlength.symm) fun hnone => ⟨hlength.trans hnone, rfl⟩⟩

end Sys2Proof.Machine
end

section
/-! PROOF. The control port's frames and commands keep every law (chapter 12). -/

namespace Sys2Proof.Machine

variable {s₀ s : State}

/-! ### Frames and completions (R173, R185, R186) -/

/-- An idle port has made no reset act whose result waits (R173). -/
theorem resetActMade_of_idle (h : PortLaw s) (hidle : s.port.executing = none) : s.port.resetActMade = false := by
  refine Bool.eq_false_of_not_eq_true fun hmade => ?_
  have hexecuting := (h hmade).1
  rw [hidle] at hexecuting
  cases hexecuting

/-- Nor has a port that executes another command than a RESTART of declared length 0 (R173). -/
theorem resetActMade_of_other (h : PortLaw s) {c : Command} (hexecuting : s.port.executing = some c)
    (hother : c.code ≠ 0x05 ∨ c.frame.declared ≠ 0) : s.port.resetActMade = false := by
  refine Bool.eq_false_of_not_eq_true fun hmade => ?_
  have hrestart := (h hmade).1
  rw [hexecuting] at hrestart
  obtain ⟨hcode, hdeclared⟩ := Bool.and_eq_true_iff.1 hrestart
  exact hother.elim (fun hne => hne (eq_of_beq hcode)) fun hne => hne (eq_of_beq hdeclared)

/-- A port that has made no reset act meets the port's law. -/
theorem portLaw_of_not_made (h : s.port.resetActMade = false) : PortLaw s := fun hmade =>
  absurd (h.symm.trans hmade) (by decide)

theorem Keeps.setSdo (h : Keeps s₀ s) (bytes : List Byte) : Keeps s₀ (s.setSdo bytes) := h.port _ fun hp => hp

theorem Keeps.judgeSend (h : Keeps s₀ s) (bytes : List Byte) (part : Bool) : Keeps s₀ (s.judgeSend bytes part) := by
  obtain ⟨_, heq⟩ | ⟨c, hidle, _, _, heq⟩ | ⟨_, _, heq⟩ := s.judgeSend_cases bytes part <;> rw [heq]
  · exact h.port _ fun hp => hp
  · exact h.port _ fun hp => portLaw_of_not_made (resetActMade_of_idle (s := s) hp hidle)
  · exact h.port _ fun hp => hp

theorem Keeps.atTaking (h : Keeps s₀ s) {c : Command} (htakes : Takes s c) : Keeps s₀ (atTaking s c) := by
  unfold Machine.atTaking
  split
  · exact h
  · rename_i hother
    exact h.port _ fun hp => portLaw_of_not_made (resetActMade_of_idle (s := s) hp (htakes.2.resolve_left hother).1)

theorem atTaking_executing {c : Command} : (atTaking s c).port.executing = some c := by
  unfold atTaking
  split
  · assumption
  · rfl

theorem Keeps.completeDone (h : Keeps s₀ s) (hmade : PortLaw s → s.port.resetActMade = false) (bytes : List Byte) :
    Keeps s₀ (s.completeDone bytes) :=
  h.port _ fun hp => portLaw_of_not_made (hmade hp)

theorem Keeps.completeRefused (h : Keeps s₀ s) (hmade : PortLaw s → s.port.resetActMade = false) (command : Byte)
    (code : RefusalCode) (detail : Nat) : Keeps s₀ (s.completeRefused command code detail) :=
  h.port _ fun hp => portLaw_of_not_made (hmade hp)

/-! ### Answers -/

/-- The effects of an answer keep every law, and leave the executing command to its completion. -/
def AnswerKeeps (s₀ s : State) (a : Answer) : Prop :=
  ∀ t bytes, a = .done t bytes → Keeps s₀ t ∧ t.port.executing = s.port.executing

theorem AnswerKeeps.refused (code : RefusalCode) (detail : Nat) : AnswerKeeps s₀ s (.refused code detail) := fun _ _ h => by
  cases h

theorem AnswerKeeps.done {t : State} (h : Keeps s₀ t) (bytes : List Byte) (hport : t.port.executing = s.port.executing) :
    AnswerKeeps s₀ s (.done t bytes) := fun _ _ heq => by
  cases heq
  exact ⟨h, hport⟩

theorem AnswerKeeps.withPlace {a : Answer} (h : hasPlace s .control = true → AnswerKeeps s₀ s a) :
    AnswerKeeps s₀ s (s.withPlace a) := by
  obtain ⟨hplace, heq⟩ | ⟨_, heq⟩ := s.withPlace_cases a <;> rw [heq]
  · exact h hplace
  · exact .refused _ _

/-- A CONTROL entry staged (R91). -/
theorem AnswerKeeps.stage (h : Keeps s₀ s) (e : Entry) (legal : RecordLaw s₀ → entryLegal e = true) (bytes : List Byte) :
    AnswerKeeps s₀ s (s.withPlace (.done (s.stage e) bytes)) :=
  .withPlace fun hplace => .done (h.stage e .control (by decide) hplace legal) bytes rfl

/-- A check that refuses. -/
theorem AnswerKeeps.check {p : Prop} [Decidable p] {code : RefusalCode} {detail : Nat} {a : Answer}
    (h : ¬p → AnswerKeeps s₀ s a) : AnswerKeeps s₀ s (if p then .refused code detail else a) := by
  split
  · exact .refused _ _
  · exact h ‹_›

theorem AnswerKeeps.ite {p : Prop} [Decidable p] {a b : Answer} (ha : AnswerKeeps s₀ s a) (hb : AnswerKeeps s₀ s b) :
    AnswerKeeps s₀ s (if p then a else b) := by
  split
  · exact ha
  · exact hb

/-- The row of a port command other than RESTART. -/
theorem Keeps.runCommand (h : Keeps s₀ s) {code : Byte} (hcode : (code == 0x05) = false) (f : CommandFrame) (act : State → Answer)
    (hact : ∀ u, Keeps s₀ u → AnswerKeeps s₀ u (act u)) : Keeps s₀ (s.runCommand ⟨code, f⟩ act) := by
  obtain ⟨_, heq⟩ | ⟨htakes, heq⟩ | ⟨_, heq, _⟩ := s.runCommand_cases ⟨code, f⟩ act <;> rw [heq]
  · exact h
  · have htaken := h.atTaking htakes
    obtain ⟨_, t, bytes, _, _, hdone, heq⟩ | ⟨_, _, heq⟩ := (Machine.atTaking s ⟨code, f⟩).takeCommand_cases ⟨code, f⟩ act <;> rw [heq]
    · obtain ⟨hkeeps, hport⟩ := hact _ htaken t bytes hdone
      exact hkeeps.completeDone (fun hp => resetActMade_of_other hp (hport.trans atTaking_executing) (.inl (ne_of_beq_false hcode))) bytes
    · exact htaken.completeRefused (fun hp => resetActMade_of_other hp atTaking_executing (.inl (ne_of_beq_false hcode))) _ _ _
  · exact h.judgeSend _ _

/-- Room in the queue depends on the queue and the armed cue alone (R91). -/
theorem hasPlace_congr {u : State} (hqueue : u.queue = s.queue) (hcue : u.cue = s.cue) (src : Source) :
    hasPlace u src = hasPlace s src := by
  unfold hasPlace depthLimit
  rw [hqueue, hcue]

/-- The arbiter leaves the port. -/
theorem obtainSlot_port {i : Slot} {u : State} (hu : obtainSlot s = some (i, u)) : u.port.executing = s.port.executing := by
  obtain ⟨_, rfl⟩ | ⟨-, rfl⟩ := obtainSlot_some hu
  · rfl
  · rfl

/-! ### The answers, row by row -/

section
variable (h : Keeps s₀ s) (f : CommandFrame)
include h

theorem answerFetchNotice_keeps : AnswerKeeps s₀ s (answerFetchNotice s) := by
  unfold answerFetchNotice
  generalize chosenNotice s.notices = o
  induction o with
  | none => exact .done h _ rfl
  | some k =>
    refine .done (h.notices _ fun hn j => ?_) _ rfl
    rw [Fin.getElem_fin, Vector.getElem_set]
    split
    · exact ⟨Nat.zero_le _, iff_of_false (Nat.lt_irrefl 0) Bool.false_ne_true⟩
    · exact hn j

theorem answerSetNotices_keeps : AnswerKeeps s₀ s (answerSetNotices f s) :=
  .done (h.notices _ fun hn k => by
    rw [getElem_writeNotices]
    exact hn k) _ rfl

theorem answerSetLaneCharacteristics_keeps : AnswerKeeps s₀ s (answerSetLaneCharacteristics f s) := by
  unfold answerSetLaneCharacteristics
  generalize laneOf? (operand f 0) = lane, hchars : laneCharsOf f = chars
  induction lane with
  | none => exact .refused _ _
  | some k =>
    induction chars with
    | error e => exact .refused _ _
    | ok chars =>
      exact .done (h.lane k { s.lanes[k] with chars := chars } (fun _ hrec => ⟨laneCharsOf_legal hchars, (hrec.lane k).2⟩)
        (fun _ htrack => htrack) fun _ hoff hon => absurd (hoff.symm.trans hon) (by decide)) _ rfl

theorem answerReadLane_keeps : AnswerKeeps s₀ s (answerReadLane f s) := by
  unfold answerReadLane
  generalize laneOf? (operand f 0) = lane
  induction lane with
  | none => exact .refused _ _
  | some k => exact .done h _ rfl

theorem answerReadLastCorrection_keeps : AnswerKeeps s₀ s (answerReadLastCorrection f s) := by
  unfold answerReadLastCorrection
  generalize laneOf? (operand f 0) = lane
  induction lane with
  | none => exact .refused _ _
  | some k =>
    exact .ite (.done (h.setLane k { s.lanes[k] with correction := { s.lanes[k].correction with valid := false } } rfl rfl
      fun _ htrack => htrack) _ rfl) (.refused _ _)

theorem answerLaneSettings_keeps : AnswerKeeps s₀ s (answerLaneSettings f s) := by
  unfold answerLaneSettings
  generalize laneOf? (operand f 0) = lane, hst : laneSettingsOf f = settings
  induction lane with
  | none => exact .refused _ _
  | some k =>
    induction settings with
    | error e => exact .refused _ _
    | ok st => exact .stage h (.laneSettings k st) (fun _ => decide_eq_true (laneSettingsOf_legal hst)) _

theorem answerCreateVoice_keeps : AnswerKeeps s₀ s (answerCreateVoice f s) := by
  unfold answerCreateVoice
  generalize laneOf? (operand f 0) = lane
  induction lane with
  | none => exact .refused _ _
  | some k =>
    refine .check fun hon => ?_
    generalize htemplate : templateOf (dataByte f) (some k) = template
    induction template with
    | error e => exact .refused _ _
    | ok t =>
      obtain ⟨hlegal, hlane⟩ := templateOf_legal htemplate
      cases hlane
      dsimp only
      generalize hunused : tagHolder s t.lane t.tag = holder
      induction holder with
      | some j => exact .refused _ _
      | none =>
        refine .check fun hplace => ?_
        generalize hu : obtainSlot s = obtained
        induction obtained with
        | none => exact .refused _ _
        | some given =>
          obtain ⟨i, u⟩ := given
          obtain ⟨hfree, hlanes, hqueue, hcue, hholds⟩ := obtainSlot_free hu
          have hallocated := (h.obtainSlot hu).allocate i .control t hfree
            (fun _ j hj => tagHolder_eq_none_iff.1 hunused j (hholds _ _ j hj))
            fun _ => ⟨hlegal, hlanes ▸ not_not.1 hon⟩
          refine .done (hallocated.stage _ .control (by decide) ?_ fun _ => rfl) _
            (show u.port.executing = s.port.executing from obtainSlot_port hu)
          exact (hasPlace_congr (u := u.allocate i .control t) hqueue hcue .control).trans (not_not.1 hplace)

theorem answerModifyVoice_keeps : AnswerKeeps s₀ s (answerModifyVoice f s) := by
  unfold answerModifyVoice
  generalize checkHandle s (operand f 0) (operand f 1) = handle,
    hm : modificationOf (operand f 2) (operand f 3) (operand f 4) = asked
  induction handle with
  | badSlot | stale => exact .refused _ _
  | current handle =>
    induction asked with
    | none => exact .refused _ _
    | some asked =>
      induction asked with
      | error e => exact .refused _ _
      | ok m => exact .stage h (.modify handle m) (fun _ => modificationOf_legal _ _ _ m hm) _

theorem answerRetireVoice_keeps : AnswerKeeps s₀ s (answerRetireVoice f s) := by
  unfold answerRetireVoice
  generalize checkHandle s (operand f 0) (operand f 1) = handle, retireModeOf? (operand f 2) = mode
  induction handle with
  | badSlot | stale => exact .refused _ _
  | current handle =>
    induction mode with
    | none => exact .refused _ _
    | some mode => exact .stage h _ (fun _ => rfl) _

theorem answerRetireLane_keeps : AnswerKeeps s₀ s (answerRetireLane f s) := by
  unfold answerRetireLane
  generalize laneOf? (operand f 0) = lane, retireModeOf? (operand f 1) = mode, ownerFilterOf? (operand f 2) = filter
  induction lane with
  | none => exact .refused _ _
  | some k =>
    induction mode with
    | none => exact .refused _ _
    | some mode =>
      induction filter with
      | none => exact .refused _ _
      | some filter => exact .stage h _ (fun _ => rfl) _

theorem answerReadVoice_keeps : AnswerKeeps s₀ s (answerReadVoice f s) := by
  unfold answerReadVoice
  generalize checkHandle s (operand f 0) (operand f 1) = handle
  induction handle with
  | badSlot | stale => exact .refused _ _
  | current handle => exact .done h _ rfl

theorem answerFindVoice_keeps : AnswerKeeps s₀ s (answerFindVoice f s) := by
  unfold answerFindVoice
  generalize laneOf? (operand f 0) = lane
  induction lane with
  | none => exact .refused _ _
  | some k =>
    dsimp only
    generalize (if operand f 1 = 0 then none else tagHolder s k (operand f 1).toNat) = holder
    induction holder with
    | none => exact .refused _ _
    | some i => exact .done h _ rfl

theorem answerTestSettled_keeps : AnswerKeeps s₀ s (answerTestSettled f s) := by
  unfold answerTestSettled
  generalize checkHandle s (operand f 0) (operand f 1) = handle
  induction handle with
  | badSlot | stale => exact .refused _ _
  | current handle => exact .done h _ rfl

theorem answerSetKeyMap_keeps : AnswerKeeps s₀ s (answerSetKeyMap f s) := by
  unfold answerSetKeyMap
  generalize hk : keyMapOf (operand f 0) (operand f 1) (operand f 2) (operand f 3) = keyMap
  induction keyMap with
  | error e => exact .refused _ _
  | ok k => exact .stage h (.keyMap k) (fun _ => decide_eq_true (keyMapOf_legal hk)) _

theorem answerLoadScene_keeps : AnswerKeeps s₀ s (answerLoadScene f s) := by
  unfold answerLoadScene
  generalize sceneOf? (operand f 0) = scene, hsc : sceneOf f = sent
  induction scene with
  | none => exact .refused _ _
  | some n =>
    induction sent with
    | error e => exact .refused _ _
    | ok sc => exact .done (h.scene _ _ fun x hx => Option.mem_some_iff.1 hx ▸ sceneOf_legal hsc) _ rfl

theorem answerReadScene_keeps : AnswerKeeps s₀ s (answerReadScene f s) := by
  unfold answerReadScene
  generalize sceneOf? (operand f 0) = scene
  induction scene with
  | none => exact .refused _ _
  | some n =>
    dsimp only
    generalize s.scenes[n] = stored
    induction stored with
    | none => exact .refused _ _
    | some sc => exact .done h _ rfl

theorem answerClearScene_keeps : AnswerKeeps s₀ s (answerClearScene f s) := by
  unfold answerClearScene
  generalize sceneOf? (operand f 0) = scene
  induction scene with
  | none => exact .refused _ _
  | some n => exact .done (h.scene _ _ fun _ hx => absurd hx (Option.not_mem_none _)) _ rfl

theorem answerTakeScene_keeps : AnswerKeeps s₀ s (answerTakeScene f s) := by
  unfold answerTakeScene
  generalize sceneOf? (operand f 0) = scene
  induction scene with
  | none => exact .refused _ _
  | some n =>
    dsimp only
    generalize s.scenes[n] = stored
    induction stored with
    | none => exact .refused _ _
    | some sc => exact .stage h _ (fun _ => rfl) _

theorem answerLoadSetlist_keeps : AnswerKeeps s₀ s (answerLoadSetlist f s) := by
  unfold answerLoadSetlist
  generalize hl : setlistOf f = sent
  induction sent with
  | error e => exact .refused _ _
  | ok l => exact .done (h.setlist _ fun _ => setlistOf_legal hl) _ rfl

theorem answerAdvanceSetlist_keeps : AnswerKeeps s₀ s (answerAdvanceSetlist f s) := by
  unfold answerAdvanceSetlist
  generalize stepAskOf? (operand f 0) (operand f 1) = ask
  induction ask with
  | none => exact .refused _ _
  | some ask =>
    dsimp only
    generalize hmove : decideStep s.setlist ask = decision
    induction decision with
    | empty | beyond => exact .refused _ _
    | move p => exact .withPlace fun hplace => .done (h.moveTo (src := .control) hmove (by decide) hplace) _ rfl
    | endReached => exact .done (h.raise _ _) _ rfl

omit f in
/-- A record is armed with its whole timeout, where the queue has its place left (R126, R128). -/
theorem Keeps.armCue {c : ArmedCue} (harmed : c.armed = true) (hset : c.matchSet ≠ 0) (htimeout : c.timeout ≤ 4095)
    (hremaining : c.remaining = c.timeout) (hroom : s.queue.length ≤ 15) : Keeps s₀ { s with cue := c } :=
  h.cue c fun _ _ => ⟨⟨hroom.trans (Nat.le_succ 15), fun _ => hroom⟩, htimeout, hremaining.le,
    fun hidle => absurd (harmed.symm.trans hidle) (by decide), fun _ => hset, fun _ hpos => hremaining ▸ hpos⟩

theorem answerArmCue_keeps : AnswerKeeps s₀ s (answerArmCue f s) := by
  unfold answerArmCue
  generalize BitVec.ofNat 12 (unsigned16 (dataByte f 2) (dataByte f 3)) = set,
    htimeout : min 4095 (unsigned16 (dataByte f 4) (dataByte f 5)) = timeout, sceneOf? (dataByte f 0) = scene,
    laneOf? (dataByte f 1) = lane, expiryActionOf? (dataByte f 6) = action
  induction scene with
  | none => exact .refused _ _
  | some n =>
    induction lane with
    | none => exact .refused _ _
    | some k =>
      refine .check fun hset => ?_
      induction action with
      | none => exact .refused _ _
      | some action =>
        refine .check fun _ => .check fun _ => .check fun _ => .check fun hroom => .done (h.armCue rfl hset ?_ rfl ?_) _ rfl
        · exact htimeout ▸ Nat.min_le_left _ _
        · exact Nat.le_of_lt_succ (Nat.lt_of_not_le hroom)

theorem answerDisarmCue_keeps : AnswerKeeps s₀ s (answerDisarmCue s) := .ite (.done h.idleCue _ rfl) (.done h _ rfl)

theorem answerFireCue_keeps : AnswerKeeps s₀ s (answerFireCue s) := by
  unfold answerFireCue
  split
  · exact .done (h.fireArmed ‹_›) _ rfl
  · exact .refused _ _

theorem answerSetCueLink_keeps : AnswerKeeps s₀ s (answerSetCueLink f s) := by
  unfold answerSetCueLink
  generalize flagOf? (operand f 0).toNat = latch, flagOf? (operand f 1).toNat = zero
  induction latch with
  | none => exact .refused _ _
  | some on =>
    induction zero with
    | none => exact .refused _ _
    | some zero =>
      refine .done ((h.chord (setLatch s.chord on) fun _ hc => setLatch_legal hc on).setFaults fun hfaults => ?_) _ rfl
      induction zero with
      | false => exact hfaults
      | true => exact FaultsLegal.zero

theorem answerSetPedals_keeps : AnswerKeeps s₀ s (answerSetPedals f s) := by
  unfold answerSetPedals
  generalize bindingsOf f = sent
  induction sent with
  | error e => exact .refused _ _
  | ok bs => exact .done (h.pedals _) _ rfl

end

/-! ### RESTART (R173) -/

theorem Keeps.takeRestart (h : Keeps s₀ s) (r : RestartStep) (hexecuting : s.port.executing = some ⟨0x05, r.frame⟩) :
    Keeps s₀ (s.takeRestart r) := by
  obtain ⟨_, _, _, heq⟩ | ⟨_, _, _, heq⟩ | ⟨hlength, _, _, heq⟩ | ⟨hnew, heq⟩ := s.takeRestart_cases r <;> rw [heq]
  · exact Keeps.completeDone (h.port _ fun _ => portLaw_of_not_made rfl) (fun _ => rfl) _
  · exact h
  · refine h.softReset.port _ fun _ _ => ⟨?_, rfl, rfl⟩
    change s.port.executing.any _ = true
    rw [hexecuting]
    exact Bool.and_eq_true_iff.2 ⟨rfl, beq_iff_eq.2 hlength⟩
  · have hmade : PortLaw s → s.port.resetActMade = false := fun hp =>
      hnew.elim (fun hlength => resetActMade_of_other hp hexecuting (.inr hlength)) And.left
    obtain ⟨n, t, bytes, hrequired, hdeclared, hdone, heq⟩ | ⟨code, detail, heq⟩ :=
      s.takeCommand_cases ⟨0x05, r.frame⟩ answerRestart <;> rw [heq]
    · cases hdone
      have hzero : r.frame.declared = 0 := by
        cases Option.some.inj (show some 0 = some n from hrequired)
        exact BitVec.eq_of_toNat_eq hdeclared
      exact h.softReset.completeDone (fun _ => (hnew.resolve_left fun hne => hne hzero).1) _
    · exact h.completeRefused hmade _ _ _

theorem Keeps.restart (h : Keeps s₀ s) (r : RestartStep) : Keeps s₀ (s.commandRow ⟨0x05, r.frame⟩ (State.takeRestart r)) := by
  obtain ⟨_, heq⟩ | ⟨htakes, heq⟩ | ⟨_, heq, _⟩ := s.commandRow_cases ⟨0x05, r.frame⟩ (State.takeRestart r) <;> rw [heq]
  · exact h
  · exact (h.atTaking htakes).takeRestart r atTaking_executing
  · exact h.judgeSend _ _

end Sys2Proof.Machine
end

section
/-! PROOF. Every row of the table, and so every step, keeps every law: O53 to O59. -/

namespace Sys2Proof.Machine

variable {s₀ s : State}

/-! ### The rows -/

/-- An act that a row makes only where it has its occasion. -/
theorem Keeps.ite (h : Keeps s₀ s) {p : Prop} [Decidable p] {t : State} (ht : p → Keeps s₀ t) :
    Keeps s₀ (if p then t else s) := by
  split
  · exact ht ‹_›
  · exact h

section
variable (h : Keeps s₀ s)
include h

/-- A row with two conditions on its frame. -/
theorem Keeps.ite_ite {p q : Prop} [Decidable p] [Decidable q] {t u : State} (ht : Keeps s₀ t) (hu : Keeps s₀ u) :
    Keeps s₀ (if p then s else if q then t else u) := by
  split
  · exact h
  · split
    · exact ht
    · exact hu

theorem Keeps.unknownCommand (code : Byte) (f : CommandFrame) :
    Keeps s₀ (if (requiredLength code).isSome then s else s.runCommand ⟨code, f⟩ fun _ => .refused .unknownCommand 0) := by
  split
  · exact h
  case isFalse hunknown =>
    refine h.runCommand (Bool.eq_false_of_not_eq_true fun hcode => hunknown ?_) f _ fun _ _ => .refused _ _
    rw [eq_of_beq hcode]
    rfl

/-- What a row makes of the message that the handler takes (R143). -/
def KeepsOutcome (s₀ : State) (o : Host.Outcome State Fault Refusal) : Prop := ∃ t, o = .next t ∧ Keeps s₀ t

theorem Keeps.keyDown : KeepsOutcome s₀ (execKeyDown s) := by
  unfold execKeyDown
  have idle : KeepsOutcome s₀ (.next s) := ⟨s, rfl, h⟩
  cases hm : handlerHead s with
  | none => exact idle
  | some m =>
    induction m with
    | keyDown note => exact ⟨_, rfl, h.chordMessage hm _ fun hnote hc => keyDownChord_legal hc (of_decide_eq_true hnote)⟩
    | keyUp | keysClear | latch | sceneCue | setlistStep | cueFire => exact idle

theorem Keeps.keyUp : KeepsOutcome s₀ (execKeyUp s) := by
  unfold execKeyUp
  have idle : KeepsOutcome s₀ (.next s) := ⟨s, rfl, h⟩
  cases hm : handlerHead s with
  | none => exact idle
  | some m =>
    induction m with
    | keyUp note => exact ⟨_, rfl, h.chordMessage hm _ fun _ hc => keyUpChord_legal hc _⟩
    | keyDown | keysClear | latch | sceneCue | setlistStep | cueFire => exact idle

theorem Keeps.keysClear : KeepsOutcome s₀ (execKeysClear s) := by
  unfold execKeysClear
  have idle : KeepsOutcome s₀ (.next s) := ⟨s, rfl, h⟩
  cases hm : handlerHead s with
  | none => exact idle
  | some m =>
    induction m with
    | keysClear =>
      exact ⟨_, rfl, h.chordMessage hm _ fun _ hc => ChordLegal.sublist hc (List.nil_sublist _) fun _ _ _ he =>
        absurd he List.not_mem_nil⟩
    | keyDown | keyUp | latch | sceneCue | setlistStep | cueFire => exact idle

theorem Keeps.latch : KeepsOutcome s₀ (execLatch s) := by
  unfold execLatch
  have idle : KeepsOutcome s₀ (.next s) := ⟨s, rfl, h⟩
  cases hm : handlerHead s with
  | none => exact idle
  | some m =>
    induction m with
    | latch on => exact ⟨_, rfl, h.chordMessage hm _ fun _ hc => setLatch_legal hc _⟩
    | keyDown | keyUp | keysClear | sceneCue | setlistStep | cueFire => exact idle

theorem Keeps.sceneCue : KeepsOutcome s₀ (execSceneCue s) := by
  unfold execSceneCue
  have idle : KeepsOutcome s₀ (.next s) := ⟨s, rfl, h⟩
  cases hm : handlerHead s with
  | none => exact idle
  | some m =>
    induction m with
    | sceneCue n =>
      obtain ⟨_, hready, _, hfifo⟩ := handlerHead_eq_some hm
      refine ⟨_, rfl, ?_⟩
      split
      · exact (h.popHead hready).stage _ .cueLink (by decide) ‹_› fun _ => rfl
      · exact h.waitHead (hfifo ▸ List.cons_ne_nil _ _)
    | keyDown | keyUp | keysClear | latch | setlistStep | cueFire => exact idle

theorem Keeps.setlistStep : KeepsOutcome s₀ (execSetlistStep s) := by
  unfold execSetlistStep
  have idle : KeepsOutcome s₀ (.next s) := ⟨s, rfl, h⟩
  cases hm : handlerHead s with
  | none => exact idle
  | some m =>
    induction m with
    | setlistStep forward => exact ⟨_, rfl, h.linkStep hm⟩
    | keyDown | keyUp | keysClear | latch | sceneCue | cueFire => exact idle

theorem Keeps.cueFire : KeepsOutcome s₀ (execCueFire s) := by
  unfold execCueFire
  have idle : KeepsOutcome s₀ (.next s) := ⟨s, rfl, h⟩
  cases hm : handlerHead s with
  | none => exact idle
  | some m =>
    induction m with
    | cueFire =>
      obtain ⟨_, hready, _⟩ := handlerHead_eq_some hm
      exact ⟨_, rfl, (h.popHead hready).ite fun harmed => (h.popHead hready).fireArmed harmed⟩
    | keyDown | keyUp | keysClear | latch | sceneCue | setlistStep => exact idle

theorem Keeps.powerOn (closed : Vector Bool 4) : KeepsOutcome s₀ (execPowerOn closed s) := by
  refine ⟨_, rfl, ?_⟩
  split
  · exact .hardReset s₀ s _ _
  · exact .hardReset s₀ s _ _
  · exact h.holdReset _ (by decide)
  · exact h.holdReset _ (by decide)
  · exact h

theorem Keeps.resetPin (edge : ResetPinEdge) : KeepsOutcome s₀ (execResetPin edge s) := by
  obtain heq | ⟨hold, hlasts, heq⟩ | ⟨cause, closed, _, heq⟩ := resetPin_cases edge s
  · exact ⟨_, heq, h⟩
  · exact ⟨_, heq, h.holdReset hold hlasts⟩
  · exact ⟨_, heq, .hardReset s₀ s cause closed⟩

theorem Keeps.supplyBelowThreshold : KeepsOutcome s₀ (execSupplyBelowThreshold s) := by
  refine ⟨_, rfl, h.holdReset _ ?_⟩
  cases s.hold <;> exact Hold.noConfusion

/-- A step row of a port command other than RESTART. -/
theorem Keeps.command {code : Byte} (hcode : (code == 0x05) = false) (f : CommandFrame) {act : State → Answer}
    (hact : ∀ u, Keeps s₀ u → AnswerKeeps s₀ u (act u)) : KeepsOutcome s₀ (.next (s.runCommand ⟨code, f⟩ act)) :=
  ⟨_, rfl, h.runCommand hcode f act hact⟩

/-- Every command and every event keeps every law. -/
theorem Keeps.exec (i : Instr) : KeepsOutcome s₀ (exec i s) := by
  induction i with
  | poll clocked resetAfter => exact ⟨_, rfl, h.ite_ite (h.port _ fun hp => hp) (h.setSdo _)⟩
  | send bytes partByte resetAfter => exact ⟨_, rfl, h.ite_ite (h.setSdo _) (h.judgeSend _ _)⟩
  | fetch clocked resetAfter => exact ⟨_, rfl, h.ite_ite (h.setSdo _) (h.setSdo _)⟩
  | malformedFrame first clocked resetAfter => exact ⟨_, rfl, h.ite_ite h (h.port _ fun hp => hp)⟩
  | unknownCommand code f => exact ⟨_, rfl, h.unknownCommand code f⟩
  | readStatus f => exact h.command rfl f fun _ hu => .done hu _ rfl
  | readRefusal f => exact h.command rfl f fun u hu => .done (hu.port { u.port with refusal := .cleared } fun hp => hp) _ rfl
  | fetchNotice f => exact h.command rfl f fun _ hu => answerFetchNotice_keeps hu
  | setNotices f => exact h.command rfl f fun _ hu => answerSetNotices_keeps hu f
  | restart r => exact ⟨_, rfl, h.restart r⟩
  | setLaneCharacteristics f => exact h.command rfl f fun _ hu => answerSetLaneCharacteristics_keeps hu f
  | readLane f => exact h.command rfl f fun _ hu => answerReadLane_keeps hu f
  | readLastCorrection f => exact h.command rfl f fun _ hu => answerReadLastCorrection_keeps hu f
  | laneSettings f => exact h.command rfl f fun _ hu => answerLaneSettings_keeps hu f
  | createVoice f => exact h.command rfl f fun _ hu => answerCreateVoice_keeps hu f
  | modifyVoice f => exact h.command rfl f fun _ hu => answerModifyVoice_keeps hu f
  | retireVoice f => exact h.command rfl f fun _ hu => answerRetireVoice_keeps hu f
  | retireLane f => exact h.command rfl f fun _ hu => answerRetireLane_keeps hu f
  | readVoice f => exact h.command rfl f fun _ hu => answerReadVoice_keeps hu f
  | findVoice f => exact h.command rfl f fun _ hu => answerFindVoice_keeps hu f
  | listVoices f => exact h.command rfl f fun _ hu => .done hu _ rfl
  | testSettled f => exact h.command rfl f fun _ hu => answerTestSettled_keeps hu f
  | setKeyMap f => exact h.command rfl f fun _ hu => answerSetKeyMap_keeps hu f
  | readKeyMap f => exact h.command rfl f fun _ hu => .done hu _ rfl
  | loadScene f => exact h.command rfl f fun _ hu => answerLoadScene_keeps hu f
  | readScene f => exact h.command rfl f fun _ hu => answerReadScene_keeps hu f
  | clearScene f => exact h.command rfl f fun _ hu => answerClearScene_keeps hu f
  | takeScene f => exact h.command rfl f fun _ hu => answerTakeScene_keeps hu f
  | loadSetlist f => exact h.command rfl f fun _ hu => answerLoadSetlist_keeps hu f
  | readSetlist f => exact h.command rfl f fun _ hu => .done hu _ rfl
  | advanceSetlist f => exact h.command rfl f fun _ hu => answerAdvanceSetlist_keeps hu f
  | armCue f => exact h.command rfl f fun _ hu => answerArmCue_keeps hu f
  | disarmCue f => exact h.command rfl f fun _ hu => answerDisarmCue_keeps hu
  | fireCue f => exact h.command rfl f fun _ hu => answerFireCue_keeps hu
  | readChordSet f => exact h.command rfl f fun _ hu => .done hu _ rfl
  | clearChordSet f => exact h.command rfl f fun _ hu => .done hu.clearChord _ rfl
  | setCueLink f => exact h.command rfl f fun _ hu => answerSetCueLink_keeps hu f
  | setPedals f => exact h.command rfl f fun _ hu => answerSetPedals_keeps hu f
  | readPedals f => exact h.command rfl f fun _ hu => .done hu _ rfl
  | laneResult k r => exact ⟨_, rfl, h.ite fun _ => h.laneResult k r⟩
  | holdExpiry k r => exact ⟨_, rfl, h.ite fun _ => h.laneResult k r⟩
  | laneLost k r => exact ⟨_, rfl, h.ite fun _ => h.laneResult k r⟩
  | frameBoundary => exact ⟨_, rfl, h.ite fun _ => h.frameBoundary⟩
  | cueExpired => exact ⟨_, rfl, h.ite h.cueExpired⟩
  | cutFadeEnd i => exact ⟨_, rfl, h.ite fun ⟨_, hcutting, hleft⟩ => h.cutFadeEnd hcutting hleft⟩
  | clockLost => exact ⟨_, rfl, h.ite fun _ => h.loseClock⟩
  | settlingStart => exact ⟨_, rfl, h.ite fun ⟨_, hlost⟩ => h.startSettling hlost⟩
  | settlingAbort => exact ⟨_, rfl, h.ite fun ⟨_, hsettling⟩ => h.abortSettling hsettling⟩
  | clockBack => exact ⟨_, rfl, h.ite fun _ => (h.runEdges le_rfl).enterPresent⟩
  | powerOn closed => exact h.powerOn closed
  | resetPin edge => exact h.resetPin edge
  | framing => exact ⟨_, rfl, h.ite fun _ => h.framingFault⟩
  | stray samples => exact ⟨_, rfl, h.lineRow samples _ fun _ _ _ hu hline ht => hu.actStray hline ht⟩
  | cueLinkMessage samples => exact ⟨_, rfl, h.lineRow samples _ fun _ _ _ hu hline ht => hu.actCueLinkMessage hline ht⟩
  | keyDown => exact h.keyDown
  | keyUp => exact h.keyUp
  | keysClear => exact h.keysClear
  | latch => exact h.latch
  | sceneCue => exact h.sceneCue
  | setlistStep => exact h.setlistStep
  | cueFire => exact h.cueFire
  | pedal p samples =>
    refine ⟨_, rfl, ?_⟩
    split
    · exact h
    · exact Keeps.foldl (fun _ closed _ ht => ht.pedalSample p closed) h
  | partialMessage samples => exact ⟨_, rfl, h.lineRow samples _ fun _ _ _ hu hline ht => hu.actPartialMessage hline ht⟩
  | lineHighBitTime => exact ⟨_, rfl, h.ite fun _ => h.lineHigh⟩
  | supplyBelowThreshold => exact h.supplyBelowThreshold

end

/-- Every step keeps every law. -/
theorem keeps_of_step {s t : State} (h : step s = .next t) : Keeps s t := by
  unfold step at h
  split at h
  · cases h
    exact (Keeps.refl s).idleEdge
  · obtain ⟨u, heq, hkeeps⟩ := ((Keeps.refl s).pending _).exec _
    cases h.symm.trans heq
    exact hkeeps

/-! ### Every law, kept by every step -/

/-- Settles O53. -/
theorem stepKeepsQueueAndCueLaws : Obligations.StepKeepsQueueAndCueLaws := fun _ _ hqueue hcue hstep =>
  (keeps_of_step hstep).queueLaw_cueLaw ⟨hqueue, hcue⟩

/-- Settles O54. -/
theorem stepKeepsNoticeClockAndPortLaws : Obligations.StepKeepsNoticeClockAndPortLaws :=
  ⟨fun _ _ hnotice hstep => (keeps_of_step hstep).noticeLaw hnotice,
    fun _ _ hclock hstep => (keeps_of_step hstep).clockLaw hclock,
    fun _ _ hport hstep => (keeps_of_step hstep).portLaw hport⟩

/-- Settles O55. -/
theorem stepKeepsPoolTagAndOffLaws : Obligations.StepKeepsPoolTagAndOffLaws :=
  ⟨fun _ _ hpool htag hstep => ⟨(keeps_of_step hstep).poolLaw hpool, (keeps_of_step hstep).tagLaw htag⟩,
    fun _ _ hpool hrecord hoff hstep => (keeps_of_step hstep).offLaw hpool hrecord hoff⟩

/-- Settles O56. -/
theorem stepKeepsRecordAndVoiceLaws : Obligations.StepKeepsRecordAndVoiceLaws :=
  ⟨fun _ _ hrecord hstep => (keeps_of_step hstep).recordLaw hrecord,
    fun _ _ hrecord hvoice hstep => (keeps_of_step hstep).voiceLaw hrecord hvoice⟩

/-- Settles O57. -/
theorem stepKeepsTrackingLaw : Obligations.StepKeepsTrackingLaw := fun _ _ hrecord htracking hstep =>
  (keeps_of_step hstep).trackingLaw hrecord htracking

/-- Settles O58. -/
theorem stepKeepsLinkAndChordLaws : Obligations.StepKeepsLinkAndChordLaws := fun _ _ hlink hchord hstep =>
  ⟨(keeps_of_step hstep).linkLaw hlink, (keeps_of_step hstep).chordLaw hlink hchord⟩

/-- Settles O59. -/
theorem stepKeepsRenderLaw : Obligations.StepKeepsRenderLaw := fun _ _ hrecord hvoice hrender hstep =>
  (keeps_of_step hstep).renderLaw hrecord hvoice hrender

end Sys2Proof.Machine
end

section
/-! PROOF. The control port's frames (R183 to R187, R190), and the rows of the port commands: what each row has in common with every
other (R186, R191, assumption 13). -/

namespace Sys2Proof.Machine

/-- Settles O1. -/
theorem stepRunsFrontCommand : Obligations.StepRunsFrontCommand := fun s c rest h => by
  rw [step, h]

/-! ### What SDO carries (R183, R184, R187, R190) -/

theorem firstBits_getMsbD (n : Nat) (b : Byte) {j : Nat} (hj : j < 8) :
    (firstBits n b).getMsbD j = (decide (j < n) && b.getMsbD j) := by
  have ones (k : Nat) (hk : k < 8) : (0xFF : Byte).getMsbD k = true := by
    interval_cases k <;> rfl
  rw [firstBits, BitVec.getMsbD_and, BitVec.getMsbD_not, BitVec.getMsbD_ushiftRight, Bool.and_comm]
  obtain hlt | hge := Nat.lt_or_ge j n
  · rw [decide_eq_true hlt, decide_eq_true hj]
    rfl
  · rw [decide_eq_false (Nat.not_lt.2 hge), ones _ ((Nat.sub_le j n).trans_lt hj), decide_eq_true hj]
    rfl

/-- SDO's bits up to a reset act, and 00h for the rest (R190). -/
theorem sdoUpTo_some (edges : Nat) (l : List Byte) : (sdoUpTo (some edges) l).length = l.length ∧
    ∀ (i : Nat) (j : Fin 8), ((sdoUpTo (some edges) l).getD i 0).getMsbD j.val =
      (decide (8 * i + j.val < edges) && (l.getD i 0).getMsbD j.val) := by
  refine ⟨List.length_mapIdx, fun i j => ?_⟩
  rw [sdoUpTo, List.getD_eq_getElem?_getD, List.getElem?_mapIdx, List.getD_eq_getElem?_getD]
  cases l[i]? with
  | none => exact (BitVec.getMsbD_zero ..).trans ((Bool.and_false _).symm.trans (congrArg _ (BitVec.getMsbD_zero ..).symm))
  | some b =>
    refine (firstBits_getMsbD _ b j.isLt).trans (congrArg (· && _) (decide_eq_decide.2 ?_))
    exact Nat.lt_sub_iff_add_lt'

theorem sdoBytes_eq (n : Nat) (l : List Byte) : sdoBytes n l = (0 :: (l ++ List.replicate n 0)).take (n + 1) :=
  congrArg (0 :: ·) (padTo_eq n l)

theorem sdoBytes_nil (n : Nat) : sdoBytes n [] = List.replicate (n + 1) 0 := by
  rw [sdoBytes_eq, List.nil_append, ← List.replicate_succ, List.take_replicate, Nat.min_self]

theorem transactionTaken_some {edges : Nat} : transactionTaken (some edges) = decide (8 ≤ edges) := rfl

/-- A frame that a reset act falls into: the bits of what it would have sent (R190). -/
theorem sdo_bits (edges clocked : Nat) (l : List Byte) : (sdoUpTo (some edges) (sdoBytes clocked l)).length = clocked + 1 ∧
    ∀ (i : Nat) (j : Fin 8), ((sdoUpTo (some edges) (sdoBytes clocked l)).getD i 0).getMsbD j.val =
      (decide (8 * i + j.val < edges) &&
        (((0 :: (l ++ List.replicate clocked 0)).take (clocked + 1)).getD i 0).getMsbD j.val) := by
  obtain ⟨hlength, hbits⟩ := sdoUpTo_some edges (sdoBytes clocked l)
  refine ⟨hlength.trans ?_, fun i j => (hbits i j).trans (by rw [sdoBytes_eq])⟩
  rw [sdoBytes_eq, List.length_take, List.length_cons, List.length_append, List.length_replicate]
  exact Nat.min_eq_left (Nat.succ_le_succ (Nat.le_add_left _ _))

/-! ### POLL (R184) -/

/-- The bits of the port status byte, by its four flags. -/
theorem statusBits : ∀ executing ready overrun framing : Bool,
    let b : Byte := BitVec.ofNat 8 (flag (!executing) 128 + flag executing 64 + flag ready 32 + flag overrun 2 + flag framing 1)
    b.getLsbD 7 = (!executing) ∧ b.getLsbD 6 = executing ∧ b.getLsbD 5 = ready ∧ b.getLsbD 4 = false ∧ b.getLsbD 3 = false ∧
      b.getLsbD 2 = false ∧ b.getLsbD 1 = overrun ∧ b.getLsbD 0 = framing := by
  decide

/-- Settles O3. -/
theorem pollReturnsStatusAndClearsFaults : Obligations.PollReturnsStatusAndClearsFaults := by
  refine fun s clocked => ⟨fun hrun => ⟨statusByte s.port, ?_, ?_, fun edges hedges =>
      ⟨sdoUpTo (some edges) (sdoBytes clocked [statusByte s.port]), ?_, ?_⟩⟩, fun hrun edges hedges => ?_,
    fun hreset a => congrArg _ (if_pos hreset)⟩
  · have hbits := statusBits s.port.executing.isSome s.port.resultReady s.port.overrun s.port.framing
    rw [Option.not_isSome] at hbits
    exact hbits
  · refine congrArg _ ((if_neg (ne_true_of_eq_false hrun)).trans ((if_pos rfl).trans ?_))
    rw [State.pollFrame, sdoBytes_eq]
    rfl
  · exact congrArg _ ((if_neg (ne_true_of_eq_false hrun)).trans (if_pos (decide_eq_true hedges)))
  · exact sdo_bits edges clocked _
  · refine congrArg _ ((if_neg (ne_true_of_eq_false hrun)).trans ((if_neg ?_).trans ?_))
    · exact fun htaken => Nat.not_le.2 hedges (of_decide_eq_true htaken)
    · rw [sdoBytes_nil]
      rfl

/-! ### FETCH and malformed frames (R183, R187) -/

/-- A malformed frame that has come so far sets FRAMING (R183). -/
theorem State.malformed_sets {s : State} {first : Option Byte} {clocked : Nat} {resetAfter : Option Nat}
    (h : (if first.isSome then transactionTaken resetAfter else resetAfter.isNone) = true) :
    s.malformed first clocked resetAfter =
      { s with port := { s.port with framing := true, sdo := if first.isSome then sdoBytes clocked [] else [] } } := by
  rw [State.malformed, h, Bool.or_true]

/-- A malformed frame that a reset act discards before sets no flag (R190). -/
theorem State.malformed_quiet {s : State} {first : Option Byte} {clocked : Nat} {resetAfter : Option Nat}
    (h : (if first.isSome then transactionTaken resetAfter else resetAfter.isNone) = false) :
    s.malformed first clocked resetAfter =
      { s with port := { s.port with sdo := if first.isSome then sdoBytes clocked [] else [] } } := by
  rw [State.malformed, h, Bool.or_false]

/-- Settles O5. -/
theorem fetchReturnsResultAndMalformedSetsFraming : Obligations.FetchReturnsResultAndMalformedSetsFraming := by
  intro s clocked hrun quiet zeros
  have run {t : State} : (if s.inReset then s else t) = t := if_neg (ne_true_of_eq_false hrun)
  have malformed {first : Option Byte} (hfirst : (first.any fun b => b == 0x11 || b == 0x22 || b == 0x33) = false)
      (resetAfter : Option Nat) : exec (.malformedFrame first clocked resetAfter) s = .next (s.malformed first clocked resetAfter) :=
    congrArg _ (run.trans (if_neg (ne_true_of_eq_false hfirst)))
  refine ⟨⟨completionCode s.port.result.completion, ?_, ?_, fun edges hedges =>
      ⟨sdoUpTo (some edges) (sdoBytes clocked (fetchBytes s.port.result)), ?_, ?_⟩⟩, fun edges hedges => ?_,
    fun b h1 h2 h3 => ?_, ?_, fun edges => ?_⟩
  · cases s.port.result.completion <;> rfl
  · refine congrArg _ (run.trans ((if_pos rfl).trans ?_))
    exact congrArg quiet (sdoBytes_eq clocked _)
  · exact congrArg _ (run.trans (if_pos (decide_eq_true hedges)))
  · exact sdo_bits edges clocked _
  · refine congrArg _ (run.trans ((if_neg ?_).trans (congrArg quiet (sdoBytes_nil clocked))))
    exact fun htaken => Nat.not_le.2 hedges (of_decide_eq_true htaken)
  · have hb : (b == 0x11 || b == 0x22 || b == 0x33) = false := by
      rw [beq_false_of_ne h1, beq_false_of_ne h2, beq_false_of_ne h3]; rfl
    have hzeros : sdoBytes clocked [] = zeros := sdoBytes_nil clocked
    rw [← hzeros]
    refine ⟨(malformed (first := some b) hb none).trans (congrArg _ (State.malformed_sets rfl)),
      fun edges => (malformed (first := some b) hb _).trans (congrArg _ ?_)⟩
    obtain hlt | hge := Nat.lt_or_ge edges 8
    · exact (State.malformed_quiet (first := some b) (resetAfter := some edges)
         (decide_eq_false (Nat.not_le.2 hlt))).trans (if_neg (Nat.not_le.2 hlt)).symm
    · exact (State.malformed_sets (first := some b) (resetAfter := some edges)
         (decide_eq_true hge)).trans (if_pos hge).symm
  · exact (malformed (first := none) rfl none).trans (congrArg _ (State.malformed_sets rfl))
  · exact (malformed (first := none) rfl _).trans (congrArg _ (State.malformed_quiet rfl))

end Sys2Proof.Machine
end

section
/-! PROOF. SEND and the port commands' rows: how a frame is judged (R185), and what the rows have in common (R186, R191,
assumption 13). -/

namespace Sys2Proof.Machine

variable {s : State} {c : Command} {bytes : List Byte} {part : Bool}

/-! ### SEND (R185) -/

/-- At a port that executes a command a SEND frame is discarded with OVERRUN. -/
theorem State.judgeSend_overrun (h : s.port.executing.isSome = true) : s.judgeSend bytes part =
    { s with port := { s.port with overrun := true, sdo := List.replicate (bytes.length + 1) 0 } } := by
  rw [← sdoBytes_nil]
  exact if_pos h

/-- An idle port accepts a frame that holds a command. -/
theorem State.judgeSend_accepts (hidle : s.port.executing = none) (h : Command.ofBytes bytes = some c) : s.judgeSend bytes false =
    { s with port := { s.port with executing := some c, resultReady := false, sdo := List.replicate (bytes.length + 1) 0 } } := by
  rw [← sdoBytes_nil]
  refine (if_neg fun hsome : s.port.executing.isSome = true => ?_).trans ?_
  · rw [hidle] at hsome
    cases hsome
  · rw [show (if false = true then none else Command.ofBytes bytes) = some c from h]
    rfl

/-- An idle port discards any other frame with FRAMING. -/
theorem State.judgeSend_framing (hidle : s.port.executing = none) (h : part = true ∨ Command.ofBytes bytes = none) :
    s.judgeSend bytes part = { s with port := { s.port with framing := true, sdo := List.replicate (bytes.length + 1) 0 } } := by
  rw [← sdoBytes_nil]
  have hnone : (if part then none else Command.ofBytes bytes) = none := by
    obtain rfl | hnone := h
    · rfl
    · rw [hnone, ite_self]
  refine (if_neg fun hsome : s.port.executing.isSome = true => ?_).trans ?_
  · rw [hidle] at hsome
    cases hsome
  · rw [hnone]
    rfl

/-- The bytes of a frame that holds a command: its second byte declares the length of the rest (R185). -/
theorem length_of_ofBytes {bytes : List Byte} (h : Command.ofBytes bytes = some c) :
    ∃ d, bytes[1]? = some d ∧ bytes.length = 8 + d.toNat := by
  rcases bytes with _ | ⟨_, _ | ⟨d, _ | ⟨_, _ | ⟨_, _ | ⟨_, _ | ⟨_, _ | ⟨_, _ | ⟨_, data⟩⟩⟩⟩⟩⟩⟩⟩
  case cons.cons.cons.cons.cons.cons.cons.cons =>
    obtain ⟨hlength, _⟩ | ⟨_, h⟩ := ite_eq_iff.1 h
    · exact ⟨d, rfl, (Nat.add_comm data.length 8).trans (congrArg (8 + ·) hlength)⟩
    · exact absurd h.symm (Option.some_ne_none _)
  all_goals exact absurd h.symm (Option.some_ne_none _)

/-- Settles O4. -/
theorem sendIsJudged : Obligations.SendIsJudged := by
  intro s bytes part
  have judged (hrun : s.inReset = false) : exec (.send bytes part none) s = .next (s.judgeSend bytes part) :=
    congrArg _ (if_neg (ne_true_of_eq_false hrun))
  refine ⟨fun hrun hbusy => (judged hrun).trans (congrArg _ (State.judgeSend_overrun hbusy)), fun hrun hidle hpart c hdata hbytes => ?_,
    fun hrun hidle hbad => (judged hrun).trans (congrArg _ (State.judgeSend_framing hidle (hbad.imp_right fun hlength => ?_))),
    fun hrun edges => congrArg _ ((if_neg (ne_true_of_eq_false hrun)).trans ?_), fun hreset a => congrArg _ (if_pos hreset)⟩
  · subst hpart hbytes
    exact (judged hrun).trans (congrArg _ (State.judgeSend_accepts hidle (Command.ofBytes_bytes c hdata)))
  · refine Option.eq_none_iff_forall_ne_some.2 fun c hc => ?_
    obtain ⟨d, hd, hheld⟩ := length_of_ofBytes hc
    exact hlength d hd hheld
  · rw [← sdoBytes_nil]
    rfl

/-! ### The rows of the port commands (R186, R191) -/

/-- What the row `i` of a port command makes of it: at a port that takes the command it is the taking, which refuses a wrong
declared length; and the command's block names the row. -/
structure CommandRow (i : Instr) (c : Command) : Prop where
  runs : ∃ take : State → State, (∀ s, exec i s = .next (s.commandRow c take)) ∧
    ∀ s n, requiredLength c.code = some n → c.frame.declared.toNat ≠ n →
      take s = s.completeRefused c.code .badLength c.frame.declared.toNat
  named : c.toInstr = i ∨ ∃ f, i = .restart ⟨f, true⟩ ∧ c.toInstr = .restart ⟨f, false⟩

/-- A declared length other than the command summary's is refused (R186). -/
theorem State.takeCommand_badLength {act : State → Answer} {n : Nat} (hrequired : requiredLength c.code = some n)
    (hdeclared : c.frame.declared.toNat ≠ n) :
    s.takeCommand c act = s.completeRefused c.code .badLength c.frame.declared.toNat := by
  rw [State.takeCommand, hrequired]
  exact if_neg hdeclared

theorem CommandRow.of_runCommand {i : Instr} {act : State → Answer} (hrow : ∀ s, exec i s = .next (s.runCommand c act))
    (hnamed : c.toInstr = i) : CommandRow i c :=
  ⟨⟨_, hrow, fun _ _ => State.takeCommand_badLength⟩, .inl hnamed⟩

theorem commandRow_restart (r : RestartStep) : CommandRow (.restart r) ⟨0x05, r.frame⟩ where
  runs := by
    refine ⟨State.takeRestart r, fun _ => rfl, fun s n hrequired hdeclared => ?_⟩
    have hnonzero : r.frame.declared ≠ 0 := fun hzero => hdeclared (by
      cases Option.some.inj (show some 0 = some n from hrequired)
      exact congrArg BitVec.toNat hzero)
    rw [State.takeRestart, if_neg fun h => hnonzero h.1, if_neg fun h => hnonzero h.1]
    exact State.takeCommand_badLength hrequired hdeclared
  named := by
    obtain ⟨f, actOnly⟩ := r
    cases actOnly
    · exact .inl rfl
    · exact .inr ⟨f, rfl, rfl⟩

/-- A code names a command, or its block is UNKNOWN_COMMAND's (R186). -/
def NamesOrUnknown (c : Command) (i : Instr) : Prop := (requiredLength c.code).isSome = true ∨ i = .unknownCommand c.code c.frame

theorem namesOrUnknown_ite {code : Byte} (hnamed : (requiredLength code).isSome = true) {i j : Instr} (h : NamesOrUnknown c j) :
    NamesOrUnknown c (if c.code = code then i else j) := by
  split
  · exact .inl (‹c.code = code› ▸ hnamed)
  · exact h

theorem commandRow_unknown {code : Byte} {f : CommandFrame} (hunknown : requiredLength code = none) :
    CommandRow (.unknownCommand code f) ⟨code, f⟩ := by
  have hnamed : NamesOrUnknown ⟨code, f⟩ (Command.toInstr ⟨code, f⟩) := by
    unfold Command.toInstr
    repeat refine namesOrUnknown_ite rfl ?_
    exact .inr rfl
  refine .of_runCommand (act := fun _ => .refused .unknownCommand 0) (fun s => congrArg _ (if_neg ?_)) (hnamed.resolve_left ?_) <;>
    exact ne_true_of_eq_false (congrArg Option.isSome hunknown)

/-- The row `i` is such a row of the command that it stands for, if it stands for one, with a data phase of its declared length. -/
def RowOf (i : Instr) (o : Option Command) : Prop :=
  ∀ c, o = some c → CommandRow i c ∧ c.frame.data.length = c.frame.declared.toNat

theorem rowOf_none (i : Instr) : RowOf i none := fun _ h => absurd h.symm (Option.some_ne_none _)

theorem rowOf_some {i : Instr} (hrow : CommandRow i c) (hw : c.frame.wellFormed = true) : RowOf i (some c) := fun _ h =>
  Option.some.inj h ▸ ⟨hrow, eq_of_beq hw⟩

theorem rowOf_run {i : Instr} {code : Byte} {f : CommandFrame} {act : State → Answer}
    (hrow : ∀ s, exec i s = .next (s.runCommand ⟨code, f⟩ act)) (hnamed : Command.toInstr ⟨code, f⟩ = i)
    (hw : f.wellFormed = true) : RowOf i (some ⟨code, f⟩) :=
  rowOf_some (.of_runCommand hrow hnamed) hw

/-- Every port command's row is such a row. -/
theorem rowOf_toCommand? (i : Instr) (hw : i.wellFormed = true) : RowOf i i.toCommand? := by
  induction i
  case restart r => exact rowOf_some (commandRow_restart r) hw
  case unknownCommand code f =>
    obtain ⟨hunknown, hframe⟩ := Bool.and_eq_true_iff.1 hw
    exact rowOf_some (commandRow_unknown (Option.isNone_iff_eq_none.1 hunknown)) hframe
  case poll | send | fetch | malformedFrame | laneResult | holdExpiry | laneLost | frameBoundary | cueExpired | cutFadeEnd |
      clockLost | settlingStart | settlingAbort | clockBack | powerOn | resetPin | framing | stray | cueLinkMessage | keyDown |
      keyUp | keysClear | latch | sceneCue | setlistStep | cueFire | pedal | partialMessage | lineHighBitTime |
      supplyBelowThreshold => exact rowOf_none _
  all_goals exact rowOf_run (fun _ => rfl) rfl hw

/-- Settles O6. -/
theorem commandBlocksRoundTrip : Obligations.CommandBlocksRoundTrip := by
  intro i c hw h
  obtain ⟨hrow, hdata⟩ := rowOf_toCommand? i hw c h
  have hheld := Command.ofBytes_bytes c hdata
  refine ⟨hrow.named, hheld, fun d hd hbytes => ?_⟩
  exact Option.some.inj ((Command.ofBytes_bytes d hd).symm.trans (hbytes ▸ hheld))

/-- A row at the port that takes its command. -/
theorem CommandRow.taken {i : Instr} (hrow : CommandRow i c) : ∃ take : State → State,
    (∀ s, Takes s c → exec i s = .next (take (atTaking s c))) ∧ ∀ s n, requiredLength c.code = some n →
      c.frame.declared.toNat ≠ n → take s = s.completeRefused c.code .badLength c.frame.declared.toNat := by
  obtain ⟨take, hexec, hbad⟩ := hrow.runs
  exact ⟨take, fun s htakes => (hexec s).trans (congrArg _ (State.commandRow_takes htakes take)), hbad⟩

/-- Settles O8. -/
theorem unknownCommandAndBadLengthRefused : Obligations.UnknownCommandAndBadLengthRefused := by
  refine ⟨fun s code f hunknown htakes => ?_, fun s i c n hw h htakes hrequired hdeclared => ?_⟩
  · refine congrArg _ ((if_neg (ne_true_of_eq_false (congrArg Option.isSome hunknown))).trans ((State.runCommand_takes htakes _).trans ?_))
    rw [State.takeCommand, hunknown]
    rfl
  · obtain ⟨take, htaken, hbad⟩ := (rowOf_toCommand? i hw c h).1.taken
    rw [htaken s htakes, hbad _ n hrequired hdeclared, State.completeRefused, refusalOf, byte_toNat]
    rfl

/-- Settles O7. -/
theorem portCommandRowIsSendThenTaking : Obligations.PortCommandRowIsSendThenTaking := by
  intro s i c hw h hrun
  obtain ⟨hrow, hdata⟩ := rowOf_toCommand? i hw c h
  refine ⟨fun hidle => ?_, fun d hd hne => ?_⟩
  · obtain ⟨take, htaken, _⟩ := hrow.taken
    have haccepted := State.judgeSend_accepts hidle (Command.ofBytes_bytes c hdata)
    have hexecuting : (s.judgeSend c.bytes false).port.executing = some c := congrArg (fun t : State => t.port.executing) haccepted
    have hrunning : (s.judgeSend c.bytes false).inReset = false := (congrArg State.inReset haccepted).trans hrun
    have htaking : atTaking s c = s.judgeSend c.bytes false := by
      rw [haccepted, atTaking, if_neg (ne_of_eq_of_ne hidle (Option.some_ne_none _).symm), sendSdo, Nat.add_comm]
    refine ⟨s.judgeSend c.bytes false, congrArg Host.Outcome.next (if_neg (ne_true_of_eq_false hrun)), hexecuting, ?_⟩
    rw [htaken s ⟨hrun, .inr ⟨hidle, hdata⟩⟩, htaken _ ⟨hrunning, .inl hexecuting⟩, htaking]
    exact congrArg (fun t => Host.Outcome.next (take t)) (if_pos hexecuting).symm
  · obtain ⟨take, hexec, _⟩ := hrow.runs
    have hover := State.judgeSend_overrun (bytes := c.bytes) (part := false) (hd ▸ rfl : s.port.executing.isSome = true)
    have hother : s.port.executing ≠ some c := fun hc => hne (Option.some.inj (hd.symm.trans hc))
    rw [hexec, State.commandRow, if_neg (ne_true_of_eq_false hrun), if_neg hother, hover, sendSdo, Nat.add_comm 1]
    exact congrArg _ (if_neg hother)

end Sys2Proof.Machine
end

section
/-! PROOF. The commands of the lane settings and of the scene bank (R99, R112 to R114). -/

namespace Sys2Proof.Machine

/-! ### LANE SETTINGS (R99) -/

/-- An off and on byte is what it stands for. -/
theorem boolByte_decide {b : Byte} (h : b.toNat ≤ 1) : boolByte (decide (b = 1)) = b := by
  obtain hzero | hone := Nat.le_one_iff_eq_zero_or_eq_one.1 h
  · rw [BitVec.eq_of_toNat_eq (y := 0) hzero]
    rfl
  · rw [BitVec.eq_of_toNat_eq (y := 1) hone]
    rfl

section
variable (f : CommandFrame)

/-- The settings that LANE SETTINGS stages when its three flags are flags. -/
noncomputable def sentSettings : LaneSettings :=
  { on := operand f 1 = 1, bypass := operand f 2 = 1, freeze := operand f 3 = 1,
    dry := min 4096 (operand f 4 ++ operand f 5 : BitVec 16).toNat }

variable {f}

theorem laneSettingsOf_badOn (hon : 1 < (operand f 1).toNat) : laneSettingsOf f = .error 0 := by
  unfold laneSettingsOf
  rw [flagOf?_of_gt hon]

theorem laneSettingsOf_badBypass (hon : ¬1 < (operand f 1).toNat) (hbypass : 1 < (operand f 2).toNat) :
    laneSettingsOf f = .error 1 := by
  unfold laneSettingsOf
  rw [flagOf?_of_le (not_lt.1 hon), flagOf?_of_gt hbypass]

theorem laneSettingsOf_badFreeze (hon : ¬1 < (operand f 1).toNat) (hbypass : ¬1 < (operand f 2).toNat)
    (hfreeze : 1 < (operand f 3).toNat) : laneSettingsOf f = .error 2 := by
  unfold laneSettingsOf
  rw [flagOf?_of_le (not_lt.1 hon), flagOf?_of_le (not_lt.1 hbypass), flagOf?_of_gt hfreeze]

theorem laneSettingsOf_ok (hon : ¬1 < (operand f 1).toNat) (hbypass : ¬1 < (operand f 2).toNat)
    (hfreeze : ¬1 < (operand f 3).toNat) : laneSettingsOf f = .ok (sentSettings f) := by
  unfold laneSettingsOf sentSettings levelOf
  rw [flagOf?_of_le (not_lt.1 hon), flagOf?_of_le (not_lt.1 hbypass), flagOf?_of_le (not_lt.1 hfreeze), unsigned16_eq_toNat]

theorem laneSettingsBytes_sent (hon : ¬1 < (operand f 1).toNat) (hbypass : ¬1 < (operand f 2).toNat)
    (hfreeze : ¬1 < (operand f 3).toNat) : laneSettingsBytes (sentSettings f) =
      [operand f 1, operand f 2, operand f 3] ++
        be16 (min 4096 (operand f 4 ++ operand f 5 : BitVec 16).toNat : Nat) := by
  rw [laneSettingsBytes, bytes16_eq_be16, sentSettings, boolByte_decide (not_lt.1 hon), boolByte_decide (not_lt.1 hbypass),
    boolByte_decide (not_lt.1 hfreeze)]

variable {s : State}

theorem answerLaneSettings_badTarget (h : 4 ≤ (operand f 0).toNat) :
    answerLaneSettings f s = .refused .badTarget (operand f 0).toNat := by
  unfold answerLaneSettings
  rw [laneOf?_of_ge h]

variable {k : LaneId} (h : (operand f 0).toNat = k.val)
include h

theorem answerLaneSettings_badParam {detail : Nat} (hsettings : laneSettingsOf f = .error detail) :
    answerLaneSettings f s = .refused .badParam detail := by
  unfold answerLaneSettings
  rw [laneOf?_of_eq h, hsettings]

theorem answerLaneSettings_stages (hon : ¬1 < (operand f 1).toNat) (hbypass : ¬1 < (operand f 2).toNat)
    (hfreeze : ¬1 < (operand f 3).toNat) :
    answerLaneSettings f s = s.withPlace (.done (s.stage (.laneSettings k (sentSettings f)))
      ([operand f 1, operand f 2, operand f 3] ++
        be16 (min 4096 (operand f 4 ++ operand f 5 : BitVec 16).toNat : Nat))) := by
  unfold answerLaneSettings
  rw [laneOf?_of_eq h, laneSettingsOf_ok hon hbypass hfreeze]
  exact congrArg (fun bytes => s.withPlace (.done _ bytes)) (laneSettingsBytes_sent hon hbypass hfreeze)

end

/-- Settles O14: the three flags decide one after another, then the entry is staged as every entry is. -/
theorem laneSettingsStages : Obligations.LaneSettingsStages := by
  intro s f htakes hlength u dry
  have hl : requiredLength 0x13 = some f.declared.toNat := by rw [hlength]; rfl
  refine ⟨fun hlane => congrArg _ (State.runCommand_refused_byte htakes hl (answerLaneSettings_badTarget hlane)),
    fun k hlane => congrArg Host.Outcome.next ?_⟩
  have refuse {detail : Nat} (h : laneSettingsOf f = .error detail) :=
    State.runCommand_refused htakes hl (answerLaneSettings_badParam hlane h)
  split
  case isTrue hon => exact refuse (laneSettingsOf_badOn hon)
  split
  case isTrue hbypass => exact refuse (laneSettingsOf_badBypass ‹_› hbypass)
  split
  case isTrue hfreeze => exact refuse (laneSettingsOf_badFreeze ‹_› ‹_› hfreeze)
  exact State.runCommand_stages htakes hl (answerLaneSettings_stages hlane ‹_› ‹_› ‹_›)

/-! ### READ SCENE, CLEAR SCENE and TAKE SCENE (R112 to R114) -/

section
variable {f : CommandFrame} {s : State}

theorem answerReadScene_badTarget (h : 32 ≤ (operand f 0).toNat) :
    answerReadScene f s = .refused .badTarget (operand f 0).toNat := by
  unfold answerReadScene
  rw [sceneOf?_of_ge h]

theorem answerClearScene_badTarget (h : 32 ≤ (operand f 0).toNat) :
    answerClearScene f s = .refused .badTarget (operand f 0).toNat := by
  unfold answerClearScene
  rw [sceneOf?_of_ge h]

theorem answerTakeScene_badTarget (h : 32 ≤ (operand f 0).toNat) :
    answerTakeScene f s = .refused .badTarget (operand f 0).toNat := by
  unfold answerTakeScene
  rw [sceneOf?_of_ge h]

variable {n : SceneId}

theorem answerReadScene_empty (hempty : s.scenes[n] = none) (h : (operand f 0).toNat = n.val) :
    answerReadScene f s = .refused .sceneEmpty (operand f 0).toNat := by
  unfold answerReadScene
  rw [sceneOf?_of_eq h, h]
  dsimp only
  rw [hempty]

theorem answerReadScene_loaded {sc : Scene} (hloaded : s.scenes[n] = some sc) (h : (operand f 0).toNat = n.val) :
    answerReadScene f s = .done s (sceneBytes sc) := by
  unfold answerReadScene
  rw [sceneOf?_of_eq h]
  dsimp only
  rw [hloaded]

theorem answerClearScene_clears (h : (operand f 0).toNat = n.val) : answerClearScene f s = .done (s.setScene n none) [] := by
  unfold answerClearScene
  rw [sceneOf?_of_eq h]

theorem answerTakeScene_empty (hempty : s.scenes[n] = none) (h : (operand f 0).toNat = n.val) :
    answerTakeScene f s = .refused .sceneEmpty (operand f 0).toNat := by
  unfold answerTakeScene
  rw [sceneOf?_of_eq h, h]
  dsimp only
  rw [hempty]

theorem answerTakeScene_stages (hloaded : s.scenes[n] ≠ none) (h : (operand f 0).toNat = n.val) :
    answerTakeScene f s = s.withPlace (.done (s.stage (.take n)) []) := by
  obtain ⟨sc, hscene⟩ := Option.ne_none_iff_exists'.1 hloaded
  unfold answerTakeScene
  rw [sceneOf?_of_eq h]
  dsimp only
  rw [hscene]

end

/-- Settles O23: each row by its answers, for a scene number above 31, for an EMPTY scene and for a LOADED one. -/
theorem sceneReadClearTake : Obligations.SceneReadClearTake := by
  refine ⟨fun s f htakes hlength => ?read, fun s f htakes hlength => ?clear, fun s f htakes hlength => ?take⟩
  case read =>
    have hl : requiredLength 0x33 = some f.declared.toNat := by rw [hlength]; rfl
    refine ⟨fun h => congrArg _ (State.runCommand_refused_byte htakes hl (answerReadScene_badTarget h)), fun n h => ⟨fun hempty => ?_, fun sc hscene => ?_⟩⟩
    all_goals rw [← atTaking_scenes s ⟨0x33, f⟩] at *
    · exact congrArg _ (State.runCommand_refused_byte htakes hl (answerReadScene_empty hempty h))
    · exact congrArg _ (State.runCommand_done htakes hl (answerReadScene_loaded hscene h))
  case clear =>
    have hl : requiredLength 0x34 = some f.declared.toNat := by rw [hlength]; rfl
    refine ⟨fun h => congrArg _ (State.runCommand_refused_byte htakes hl (answerClearScene_badTarget h)), fun n h => ?_⟩
    · rw [← atTaking_scenes s ⟨0x34, f⟩]
      exact congrArg _ (State.runCommand_done htakes hl (answerClearScene_clears h))
  case take =>
    have hl : requiredLength 0x35 = some f.declared.toNat := by rw [hlength]; rfl
    refine ⟨fun h => congrArg _ (State.runCommand_refused_byte htakes hl (answerTakeScene_badTarget h)), fun n h => congrArg Host.Outcome.next ?_⟩
    · rw [← atTaking_scenes s ⟨0x35, f⟩]
      split
      case isTrue hempty => exact State.runCommand_refused_byte htakes hl (answerTakeScene_empty hempty h)
      case isFalse hloaded => exact State.runCommand_stages htakes hl (answerTakeScene_stages hloaded h)

end Sys2Proof.Machine
end

section
/-! PROOF. SET PEDALS and READ PEDALS (R182). -/

namespace Sys2Proof.Machine

@[simp] theorem atTaking_pedals (s : State) (c : Command) : (atTaking s c).pedals = s.pedals := by
  obtain ⟨p, h⟩ := atTaking_frame s c
  rw [h]

theorem pedal_cases : ∀ p : PedalId, p = 0 ∨ p = 1 ∨ p = 2 ∨ p = 3 := by decide

/-! ### One binding -/

section
variable {code lane : Byte} (p : Nat)

theorem bindingOf_badCode (h : 6 < code.toNat) : bindingOf p code lane = .error p := by
  have hne {n : Byte} (hn : n.toNat ≤ 6) : ¬code = n := fun heq => absurd h (not_lt.2 (heq ▸ hn))
  unfold bindingOf
  rw [if_neg (hne (by decide)), if_neg (hne (by decide)), if_neg (hne (by decide)), if_neg (hne (by decide)),
    if_neg (hne (by decide)), if_neg (hne (by decide)), if_neg (hne (by decide))]

/-- The binding to a lane that codes 3 and 4 make. -/
noncomputable def laneBinding (lane : Byte) (make : LaneId → Binding) : Except Nat Binding :=
  (laneOf? lane).elim (.error (4 + p)) fun k => .ok (make k)

theorem bindingOf_freeze : bindingOf p 3 lane = laneBinding p lane .freezeToggle := rfl

theorem bindingOf_bypass : bindingOf p 4 lane = laneBinding p lane .bypassToggle := rfl

theorem laneBinding_ok (make : LaneId → Binding) (h : lane.toNat < 4) :
    laneBinding p lane make = .ok (make ⟨lane.toNat, h⟩) := by
  rw [laneBinding, laneOf?_of_eq (k := ⟨lane.toNat, h⟩) rfl]
  rfl

theorem bindingOf_badLane (h : code.toNat = 3 ∨ code.toNat = 4) (hlane : 3 < lane.toNat) :
    bindingOf p code lane = .error (4 + p) := by
  have refused (make : LaneId → Binding) : laneBinding p lane make = .error (4 + p) := by
    rw [laneBinding, laneOf?_of_ge hlane]
    rfl
  obtain h | h := h
  · obtain rfl : code = 3 := BitVec.eq_of_toNat_eq h
    exact refused _
  · obtain rfl : code = 4 := BitVec.eq_of_toNat_eq h
    exact refused _

/-- A legal binding is stored as it was sent; the lane byte of a binding without a lane is dropped. -/
theorem bindingOf_ok (hcode : code.toNat ≤ 6) (hlane : code.toNat = 3 ∨ code.toNat = 4 → lane.toNat ≤ 3) :
    ∃ b, bindingOf p code lane = .ok b ∧
      bindingBytes b = [code, if code.toNat = 3 ∨ code.toNat = 4 then lane else 0] := by
  have ofLane (n : Byte) : [n, byte lane.toNat] = [n, lane] := congrArg (fun b => [n, b]) (byte_toNat lane)
  obtain ⟨⟨n, hn⟩⟩ := code
  have codes : ∀ n ≤ 6, n = 0 ∨ n = 1 ∨ n = 2 ∨ n = 3 ∨ n = 4 ∨ n = 5 ∨ n = 6 := by decide
  obtain rfl | rfl | rfl | rfl | rfl | rfl | rfl := codes n hcode
  · exact ⟨.none, rfl, rfl⟩
  · exact ⟨.setlistNext, rfl, rfl⟩
  · exact ⟨.setlistPrev, rfl, rfl⟩
  · exact ⟨_, laneBinding_ok p .freezeToggle (Nat.lt_succ_of_le (hlane (.inl rfl))), ofLane 3⟩
  · exact ⟨_, laneBinding_ok p .bypassToggle (Nat.lt_succ_of_le (hlane (.inr rfl))), ofLane 4⟩
  · exact ⟨.fireCue, rfl, rfl⟩
  · exact ⟨.chordClear, rfl, rfl⟩

end

/-! ### The four bindings -/

/-- The binding that SET PEDALS sends for pedal `p`, or its refusal. -/
noncomputable def sentBinding (f : CommandFrame) (p : PedalId) : Except Nat Binding :=
  bindingOf p.val (dataByte f (2 * p.val)) (dataByte f (2 * p.val + 1))

section
variable {f : CommandFrame}

theorem bindingsOf_eq : bindingsOf f = (sentBinding f 0).bind fun b0 => (sentBinding f 1).bind fun b1 =>
    (sentBinding f 2).bind fun b2 => (sentBinding f 3).bind fun b3 => .ok #v[b0, b1, b2, b3] := by
  unfold bindingsOf
  change _ = (bindingOf 0 (dataByte f 0) (dataByte f 1)).bind fun b0 =>
    (bindingOf 1 (dataByte f 2) (dataByte f 3)).bind fun b1 =>
    (bindingOf 2 (dataByte f 4) (dataByte f 5)).bind fun b2 =>
    (bindingOf 3 (dataByte f 6) (dataByte f 7)).bind fun b3 => .ok #v[b0, b1, b2, b3]
  cases bindingOf 0 (dataByte f 0) (dataByte f 1) with
  | error => rfl
  | ok =>
    cases bindingOf 1 (dataByte f 2) (dataByte f 3) with
    | error => rfl
    | ok =>
      cases bindingOf 2 (dataByte f 4) (dataByte f 5) with
      | error => rfl
      | ok => cases bindingOf 3 (dataByte f 6) (dataByte f 7) <;> rfl

/-- The first refused binding decides. -/
theorem bindingsOf_error {detail : Nat} (p : PedalId) (hbefore : ∀ q < p, ∃ b, sentBinding f q = .ok b)
    (h : sentBinding f p = .error detail) : bindingsOf f = .error detail := by
  rw [bindingsOf_eq]
  obtain rfl | rfl | rfl | rfl := pedal_cases p
  · rw [h]
    rfl
  · -- pedal 1
    obtain ⟨b0, h0⟩ := hbefore 0 (by decide)
    rw [h0, h]
    rfl
  · -- pedal 2
    obtain ⟨b0, h0⟩ := hbefore 0 (by decide)
    obtain ⟨b1, h1⟩ := hbefore 1 (by decide)
    rw [h0, h1, h]
    rfl
  · -- pedal 3
    obtain ⟨b0, h0⟩ := hbefore 0 (by decide)
    obtain ⟨b1, h1⟩ := hbefore 1 (by decide)
    obtain ⟨b2, h2⟩ := hbefore 2 (by decide)
    rw [h0, h1, h2, h]
    rfl

theorem bindingsOf_ok {b : PedalId → Binding} (h : ∀ p, sentBinding f p = .ok (b p)) :
    bindingsOf f = .ok #v[b 0, b 1, b 2, b 3] := by
  rw [bindingsOf_eq, h 0, h 1, h 2, h 3]
  rfl

theorem bindPedals_get (ps : Vector Pedal 4) (b : PedalId → Binding) (p : PedalId) :
    (bindPedals ps #v[b 0, b 1, b 2, b 3])[p] = { ps[p] with binding := b p } := by
  obtain rfl | rfl | rfl | rfl := pedal_cases p
  all_goals rfl

variable {s : State}

theorem answerSetPedals_badParam {detail : Nat} (h : bindingsOf f = .error detail) :
    answerSetPedals f s = .refused .badParam detail := by
  unfold answerSetPedals
  rw [h]

theorem answerSetPedals_done {bs : Vector Binding 4} (h : bindingsOf f = .ok bs) :
    answerSetPedals f s = .done { s with pedals := bindPedals s.pedals bs } [] := by
  unfold answerSetPedals
  rw [h]

end

/-- The bytes that READ PEDALS returns. -/
theorem readPedals_bytes (ps : Vector Pedal 4) :
    ps.toList.flatMap (fun d => bindingBytes d.binding) ++ ps.toList.map (fun d => boolByte d.closed) =
      bindingBytes ps[0].binding ++ bindingBytes ps[1].binding ++ bindingBytes ps[2].binding ++ bindingBytes ps[3].binding ++
        (List.finRange 4).map fun p : PedalId => if ps[p].closed then 1 else 0 := by
  have hlist : ps.toList = [ps[0], ps[1], ps[2], ps[3]] := by
    rw [← Vector.ofFn_getElem (xs := ps), Vector.toList_ofFn]
    rfl
  rw [hlist]
  refine congrArg₂ (· ++ ·) ?_ rfl
  change _ ++ (_ ++ (_ ++ (_ ++ []))) = _
  rw [List.append_nil, List.append_assoc, List.append_assoc]

/-- Settles O28: SET PEDALS by the first binding that is refused or by all four, READ PEDALS by its bytes. -/
theorem pedalCommands : Obligations.PedalCommands := by
  unfold Obligations.PedalCommands
  intro bytes
  have hbytes : bytes = bindingBytes := funext fun b => by cases b <;> rfl
  refine ⟨fun s f htakes hlength => ?set, fun s f htakes hlength => ?read⟩
  case set =>
    have hl : requiredLength 0x60 = some f.declared.toNat := by rw [hlength]; rfl
    intro u code lane ok
    have sent (p : PedalId) (h : ok p) := bindingOf_ok p.val h.1 h.2
    have refuse (p : PedalId) (hbefore : ∀ q, q < p → ok q) {detail : Nat} (h : sentBinding f p = .error detail) :=
      State.runCommand_refused htakes hl (answerSetPedals_badParam (s := u)
        (bindingsOf_error p (fun q hq => (sent q (hbefore q hq)).imp fun _ => And.left) h))
    refine ⟨fun p hbefore => ⟨fun h => congrArg _ (refuse p hbefore (bindingOf_badCode p.val h)),
      fun h hlane => congrArg _ (refuse p hbefore (bindingOf_badLane p.val h hlane))⟩, fun hok => ?_⟩
    choose b hsent hstored using fun p => sent p (hok p)
    refine ⟨bindPedals s.pedals #v[b 0, b 1, b 2, b 3], ?_, fun p => ?_⟩
    · rw [← atTaking_pedals s ⟨0x60, f⟩]
      exact congrArg _ (State.runCommand_done htakes hl (answerSetPedals_done (bindingsOf_ok hsent)))
    · rw [bindPedals_get, hbytes]
      exact ⟨rfl, rfl, hstored p⟩
  case read =>
    have hl : requiredLength 0x61 = some f.declared.toNat := by rw [hlength]; rfl
    rw [hbytes, ← atTaking_pedals s ⟨0x61, f⟩, ← readPedals_bytes]
    exact congrArg _ (State.runCommand_done (act := answerReadPedals) htakes hl rfl)

end Sys2Proof.Machine
end

section
/-! PROOF. The pool arbiter (R78 to R82). -/

namespace Sys2Proof.Machine

section
variable {s : State} {i : Slot}

theorem lowestFree_of_first (hfree : s.voices[i].state = .free) (hbelow : ∀ j < i, s.voices[j].state ≠ .free) :
    lowestFree s = some i := by
  rw [lowestFree, Fin.find?_eq_find?_finRange.symm]
  exact Fin.find?_eq_some_iff.2 ⟨decide_eq_true hfree, fun j hj => decide_eq_false (hbelow j hj)⟩

theorem lowestFree_of_none (hused : ∀ j : Slot, s.voices[j].state ≠ .free) : lowestFree s = none :=
  List.find?_eq_none.2 fun j _ => mt of_decide_eq_true (hused j)

theorem find?_of_first {test : Slot → Prop} [DecidablePred test] {l a b : List Slot} (hl : l = a ++ i :: b) (hi : test i)
    (ha : ∀ j ∈ a, ¬test j) : l.find? (fun j => test j) = some i :=
  List.find?_eq_some_iff_append.2 ⟨decide_eq_true hi, a, b, hl, fun j hj =>
    congrArg (!·) (decide_eq_false (ha j hj))⟩

theorem find?_of_none {test : Slot → Prop} [DecidablePred test] {l : List Slot} (h : ∀ j ∈ l, ¬test j) :
    l.find? (fun j => test j) = none :=
  List.find?_eq_none.2 fun j hj => mt of_decide_eq_true (h j hj)

theorem victim_of_release (h : s.releaseList.find? (fun j => s.voices[j].template.group = .background) = some i) :
    victim s = some i := by
  rw [victim, h]
  rfl

theorem victim_of_age (hrelease : s.releaseList.find? (fun j => s.voices[j].template.group = .background) = none)
    {o : Option Slot} (h : s.ageList.find? (fun j => s.voices[j].template.group = .background ∧
      s.voices[j].state ≠ .pending) = o) : victim s = o := by
  rw [victim, hrelease, h]
  rfl

end

/-- Settles O17: `find?` over the slots, then over the release list and the age list; the steal is written out. -/
theorem arbiterChoosesFreeSlotOrVictim : Obligations.ArbiterChoosesFreeSlotOrVictim := by
  intro s first background open'
  refine ⟨fun i hfree hbelow => ?_, fun hused => ?_⟩
  · rw [obtainSlot, lowestFree_of_first hfree hbelow]
  have hnone := lowestFree_of_none hused
  refine ⟨fun i hi => ?_, fun hrelease hage => ?_⟩
  · have hvictim : victim s = some i := by
      obtain ⟨a, b, hl, ht, ha⟩ | ⟨hrelease, a, b, hl, ht, ha⟩ := hi
      · exact victim_of_release (find?_of_first hl ht ha)
      · exact victim_of_age (find?_of_none hrelease) (find?_of_first hl ht ha)
    refine ⟨.freeSlot s.voices[i].generation, cutChannel s.channels[i], ?_, rfl, rfl, rfl⟩
    rw [obtainSlot, hnone, hvictim]
    rfl
  · rw [obtainSlot, hnone, victim_of_age (find?_of_none hrelease) (find?_of_none hage)]
    rfl

end Sys2Proof.Machine
end

section
/-! PROOF. A lane's transitions at a result (R4 to R6, R8, R10 to R12). -/

namespace Sys2Proof.Machine

/-- The checks of R4 with the limits written out. -/
theorem classify_eq (c : LaneChars) (r : LaneResult) : classify c r =
    if r.voiced = false then .notVoiced else if r.confidence.toNat < c.threshold then .lowConfidence
    else if r.period < 512 ∨ 12800 < r.period then .periodRange
    else if c.lowLimit ≤ rawPitch r.period ∧ rawPitch r.period ≤ c.highLimit then .voiced else .outOfLimits :=
  if_congr (Bool.not_eq_true' _).to_iff rfl (if_congr .rfl rfl (if_congr .rfl rfl (if_congr (inLimits_iff _ _) rfl rfl)))

/-! ### Unvoiced results (R6, R8, R10, R12) -/

section
variable {l : Lane}

/-- The two ways out of LOCKED and of HOLD lead to one state (R8, R10). -/
theorem ite_leaves {w w' c c' : Prop} [Decidable w] [Decidable w'] [Decidable c] [Decidable c'] (hw : w ↔ w') (hc : c ↔ c')
    (a b : Lane) (e : LaneEvents) :
    (if ¬w then (a, e) else if c then (a, e) else (b, e)) = (if ¬w' ∨ c' then a else b, e) := by
  rw [apply_ite (·, e), ite_or]
  exact if_congr (not_congr hw) rfl (if_congr hc rfl rfl)

theorem takeUnvoiced_search (h : l.tracking = .search) : takeUnvoiced l = (clearRuns l, {}) := by
  unfold takeUnvoiced
  dsimp only
  rw [show (clearRuns l).tracking = .search from h]

theorem takeUnvoiced_locked (h : l.tracking = .locked) : takeUnvoiced l =
    (if ¬(l.chars.lowLimit ≤ l.p ∧ l.p ≤ l.chars.highLimit) ∨ l.chars.holdFrames = 0 then toReacquire (clearRuns l)
      else { clearRuns l with tracking := .hold, counter := l.chars.holdFrames }, {}) := by
  unfold takeUnvoiced
  dsimp only
  rw [show (clearRuns l).tracking = .locked from h]
  exact ite_leaves (inLimits_iff _ _) .rfl _ _ _

theorem takeUnvoiced_hold (h : l.tracking = .hold) : takeUnvoiced l =
    (if ¬(l.chars.lowLimit ≤ l.p ∧ l.p ≤ l.chars.highLimit) ∨ l.counter ≤ 1 then toReacquire (clearRuns l)
      else { clearRuns l with counter := l.counter - 1 }, {}) := by
  unfold takeUnvoiced
  dsimp only
  rw [show (clearRuns l).tracking = .hold from h]
  exact ite_leaves (inLimits_iff _ _) Nat.sub_eq_zero_iff_le _ _ _

theorem takeUnvoiced_reacquire (h : l.tracking = .reacquire) : takeUnvoiced l =
    if l.counter ≤ 1 then (toSearch { clearRuns l with counter := 0 }, { lost := true })
    else ({ clearRuns l with counter := l.counter - 1 }, {}) := by
  unfold takeUnvoiced
  dsimp only
  rw [show (clearRuns l).tracking = .reacquire from h]
  exact if_congr Nat.sub_eq_zero_iff_le rfl rfl

/-! ### Voiced results (R5, R6, R11) -/

theorem takeVoiced_search (h : l.tracking = .search) (raw ref : Int) : takeVoiced l raw ref =
    if l.chars.confirmFrames ≤ extendedCount l (candidateNote raw ref) then
      (lockLane l raw (candidateNote raw ref) ref, { locked := true, arrival := some (candidateNote raw ref) })
    else ({ l with candidate := some (candidateNote raw ref), confirmCount := extendedCount l (candidateNote raw ref) }, {}) := by
  have taken : takeVoiced l raw ref =
      if runComplete (extendRun l (candidateNote raw ref)) then
        (lockLane l raw (candidateNote raw ref) ref, { locked := true, arrival := some (candidateNote raw ref) })
      else (extendRun l (candidateNote raw ref), {}) := by
    unfold takeVoiced
    rw [h]
  rw [taken, extendRun_eq]
  exact if_congr decide_eq_true_iff rfl rfl

theorem takeVoiced_reacquire (h : l.tracking = .reacquire) (raw ref : Int) : takeVoiced l raw ref =
    ({ lockLane l raw (candidateNote raw ref) ref with counter := 0 },
      { locked := true, arrival := some (candidateNote raw ref) }) := by
  unfold takeVoiced
  rw [h]

/-- The octave check accepts a pitch within the limits (R15, R16). -/
theorem octaveChecked_inLimits {raw : Int} (hraw : inLimits l.chars raw = true) :
    inLimits l.chars (octaveChecked l raw).p = true := by
  unfold octaveChecked octaveCheck
  split
  · exact hraw
  · dsimp only
    split
    case isTrue hcorrects => exact hcorrects.2
    case isFalse => exact hraw

end

section
variable {l : Lane} {r : LaneResult} (ref : Int)

theorem takeResult_of_not_voiced (h : classify l.chars r ≠ .voiced) : takeResult l r ref = takeUnvoiced (countResult l r) :=
  if_neg h

theorem takeResult_of_voiced (h : classify l.chars r = .voiced) :
    takeResult l r ref = takeVoiced (countResult l r) (rawPitch r.period) ref := if_pos h

end

/-! ### The lane's law of R8 -/

/-- A lane that is not OFF, with a pitch within the limits in LOCKED and HOLD. -/
def PitchWithin (l : Lane) : Prop :=
  l.tracking ≠ .off ∧ (l.tracking = .locked ∨ l.tracking = .hold → inLimits l.chars l.p = true)

section
variable {l : Lane}

theorem pitchWithin_of_search (h : l.tracking = .search) : PitchWithin l :=
  ⟨ne_of_eq_of_ne h (by decide), fun hstate => absurd hstate (by rw [h]; decide)⟩

theorem pitchWithin_of_reacquire (h : l.tracking = .reacquire) : PitchWithin l :=
  ⟨ne_of_eq_of_ne h (by decide), fun hstate => absurd hstate (by rw [h]; decide)⟩

theorem pitchWithin_of_ite {p c : Prop} [Decidable p] [Decidable c] {a b : Lane} {e : LaneEvents} (ha : PitchWithin a)
    (hb : p → PitchWithin b) : PitchWithin (if ¬p ∨ c then a else b, e).1 := by
  split
  case isTrue => exact ha
  case isFalse h => exact hb (not_not.1 (not_or.1 h).1)

theorem takeUnvoiced_pitchWithin (hactive : l.tracking ≠ .off) : PitchWithin (takeUnvoiced l).1 := by
  match htracking : l.tracking with
  | .off => exact absurd htracking hactive
  | .search =>
    rw [takeUnvoiced_search htracking]
    exact pitchWithin_of_search htracking
  | .locked =>
    rw [takeUnvoiced_locked htracking]
    exact pitchWithin_of_ite (pitchWithin_of_reacquire (l := toReacquire _) rfl) fun h =>
      ⟨Tracking.noConfusion, fun _ => (inLimits_iff _ _).2 h⟩
  | .hold =>
    rw [takeUnvoiced_hold htracking]
    exact pitchWithin_of_ite (pitchWithin_of_reacquire (l := toReacquire _) rfl) fun h =>
      ⟨hactive, fun _ => (inLimits_iff _ _).2 h⟩
  | .reacquire =>
    rw [takeUnvoiced_reacquire htracking]
    split
    · exact pitchWithin_of_search rfl
    · exact pitchWithin_of_reacquire htracking

theorem voicedLocked_pitchWithin {raw : Int} (hraw : inLimits l.chars raw = true) (ref : Int) :
    PitchWithin (voicedLocked l raw ref).1 := by
  obtain ⟨_, _, _, _, hdecided⟩ := noteDecision_frame (octaveChecked l raw) ref
  have haccepted := octaveChecked_inLimits hraw
  rw [← octaveChecked_chars l raw] at haccepted
  change PitchWithin (noteDecision (octaveChecked l raw) ref).1
  rw [hdecided]
  exact ⟨Tracking.noConfusion, fun _ => haccepted⟩

theorem takeVoiced_pitchWithin (hactive : l.tracking ≠ .off) {raw : Int} (hraw : inLimits l.chars raw = true) (ref : Int) :
    PitchWithin (takeVoiced l raw ref).1 := by
  unfold takeVoiced
  split
  case h_1 hoff => exact absurd hoff hactive
  case h_2 hsearch =>
    dsimp only
    split
    · exact ⟨Tracking.noConfusion, fun _ => hraw⟩
    · rw [extendRun_eq]
      exact pitchWithin_of_search hsearch
  case h_3 => exact voicedLocked_pitchWithin hraw ref
  case h_4 => exact voicedLocked_pitchWithin (l := { l with counter := 0 }) hraw ref
  case h_5 => exact ⟨Tracking.noConfusion, fun _ => hraw⟩

theorem takeResult_pitchWithin (hactive : l.tracking ≠ .off) (r : LaneResult) (ref : Int) :
    PitchWithin (takeResult l r ref).1 := by
  unfold takeResult
  dsimp only
  split
  case isTrue hclass => exact takeVoiced_pitchWithin (l := countResult l r) hactive (inLimits_of_classify_voiced hclass) ref
  case isFalse => exact takeUnvoiced_pitchWithin (l := countResult l r) hactive

end

/-- Settles O31: each tracking state by its own equation, and R8's law from them. -/
theorem laneTransitions : Obligations.LaneTransitions := by
  intro l r ref _ raw within cls note m quiet lock away count
  have hclass : classify l.chars r = cls := classify_eq _ _
  have hcount : countResult l r = m := by rw [countResult, hclass]
  rw [← hclass]
  refine ⟨fun hunvoiced => ?_, fun hvoiced => ?_, fun hstate hactive => ?_⟩
  · rw [takeResult_of_not_voiced ref hunvoiced, hcount]
    exact ⟨takeUnvoiced_search (l := m), takeUnvoiced_locked (l := m), takeUnvoiced_hold (l := m),
      takeUnvoiced_reacquire (l := m)⟩
  · rw [takeResult_of_voiced ref hvoiced, hcount]
    exact ⟨fun h => takeVoiced_search (l := m) h raw ref, fun h => takeVoiced_reacquire (l := m) h raw ref⟩
  · have hwithin := (takeResult_pitchWithin hactive r ref).2 hstate
    rw [show (takeResult l r ref).1.chars = l.chars from congrArg (fun x => x.2.1) (takeResult_setUp l r ref)] at hwithin
    exact (inLimits_iff _ _).1 hwithin

end Sys2Proof.Machine
end

section
/-! PROOF. A lane's result as the rest of the part sees it (R3, R10, R12, R14, R130). -/

namespace Sys2Proof.Machine

/-! ### The notices of a result -/

section
variable (s : State)

theorem State.raiseIf_get (b : Bool) (kind : NoticeKind) (x : Nat) (j : Fin 17) :
    (if b then s.raise kind x else s).notices[j] =
      if kind.number = j then (if b then raiseNotice s.notices[j] x else s.notices[j]) else s.notices[j] := by
  induction b with
  | false => exact (ite_self _).symm
  | true => exact State.raise_get s kind x j

theorem State.raiseLaneEvents_get (k : LaneId) (e : LaneEvents) (j : Fin 17) :
    (s.raiseLaneEvents k e).notices[j] =
      if j = 3 then (if e.lost then raiseNotice s.notices[j] k.val else s.notices[j])
      else if j = 4 then (if e.locked then raiseNotice s.notices[j] k.val else s.notices[j]) else s.notices[j] := by
  unfold State.raiseLaneEvents
  dsimp only
  rw [State.raiseIf_get, State.raiseIf_get]
  by_cases h3 : j = 3
  · obtain rfl := h3
    rfl
  · rw [if_neg h3, if_neg fun h => h3 h.symm]
    exact if_congr eq_comm rfl rfl

theorem State.raiseLaneEvents_frame (k : LaneId) (e : LaneEvents) :
    s.raiseLaneEvents k e = { s with notices := (s.raiseLaneEvents k e).notices } := by
  unfold State.raiseLaneEvents
  cases e.locked
  all_goals cases e.lost
  all_goals rfl

/-- The voices raise VOICE_FREED alone. -/
theorem State.raiseFreed_get (slots : List Slot) {j : Fin 17} (hj : j ≠ 6) :
    (s.raiseFreed slots).notices[j] = s.notices[j] := by
  have raised (u : State) (i : Slot) : (u.raise .voiceFreed i).notices[j] = u.notices[j] :=
    (State.raise_get u .voiceFreed i j).trans (if_neg hj.symm)
  match slots with
  | [] => rfl
  | [i] => exact raised s i
  | i :: i' :: l =>
    exact List.foldlRecOn _ _ (motive := fun u : State => u.notices[j] = s.notices[j]) rfl
      fun u hu i _ => (raised u i).trans hu

theorem State.actVoices_get (k : LaneId) {j : Fin 17} (hj : j ≠ 6) : (s.actVoices k).notices[j] = s.notices[j] := by
  refine (State.raiseFreed_get _ _ hj).trans (List.foldlRecOn _ _
    (motive := fun u : State => u.notices[j] = s.notices[j]) rfl fun u hu i _ => ?_)
  unfold State.actSlot
  split
  · dsimp only
    split
    all_goals exact hu
  · exact hu

/-! ### The note arrival (R130) -/

/-- A note arrival that fires the armed cue. -/
def CueFires (c : ArmedCue) (k : LaneId) (arrival : Option Int) : Prop :=
  ∃ note, arrival = some note ∧ c.armed = true ∧ c.lane = k ∧ c.matchSet.getLsbD (note % 12).toNat = true

variable {s}

theorem cueMatches_iff {c : ArmedCue} {k : LaneId} {note : Int} :
    cueMatches c k note = true ↔ c.armed = true ∧ c.lane = k ∧ c.matchSet.getLsbD (note % 12).toNat = true := by
  rw [cueMatches, Bool.and_eq_true, Bool.and_eq_true, decide_eq_true_iff, and_assoc]
  rfl

theorem State.noteArrival_of_fires {k : LaneId} {arrival : Option Int} (h : CueFires s.cue k arrival) :
    s.noteArrival k arrival = s.fireArmed := by
  obtain ⟨note, rfl, hmatches⟩ := h
  exact if_pos (cueMatches_iff.2 hmatches)

theorem State.noteArrival_of_not_fires {k : LaneId} {arrival : Option Int} (h : ¬CueFires s.cue k arrival) :
    s.noteArrival k arrival = s :=
  match arrival with
  | none => rfl
  | some note => if_neg fun hmatches => h ⟨note, rfl, cueMatches_iff.1 hmatches⟩

/-- A note arrival changes the queue, the cue, the link and the notices alone. -/
theorem State.noteArrival_frame (s : State) (k : LaneId) (arrival : Option Int) : s.noteArrival k arrival = { s with
    queue := (s.noteArrival k arrival).queue, cue := (s.noteArrival k arrival).cue
    link := (s.noteArrival k arrival).link, notices := (s.noteArrival k arrival).notices } := by
  by_cases h : CueFires s.cue k arrival
  · rw [State.noteArrival_of_fires h]
    rfl
  · rw [State.noteArrival_of_not_fires h]

theorem State.noteArrival_get (s : State) (k : LaneId) (arrival : Option Int) {j : Fin 17} (hj : j ≠ 11) :
    (s.noteArrival k arrival).notices[j] = s.notices[j] := by
  by_cases h : CueFires s.cue k arrival
  · rw [State.noteArrival_of_fires h]
    exact (State.raise_get s .cueFired s.cue.scene.val j).trans (if_neg hj.symm)
  · rw [State.noteArrival_of_not_fires h]

end

/-! ### The result of a lane that is ON -/

section
variable (s : State) (k : LaneId) (r : LaneResult)

theorem resultDue_of (hreset : s.inReset = false) (hclock : s.clock.state = .present) (hdue : s.lanes[k].due = true) :
    resultDue s k = true := by
  rw [resultDue, hreset, hclock, hdue]
  rfl

/-- What an ON lane makes of its result (R3, R4). -/
noncomputable def takenResult : Lane × LaneEvents := takeResult { s.lanes[k] with due := false } r s.keyMap.ref

/-- The state in which the armed cue hears of the result's note arrival. -/
noncomputable def State.resultTaken : State :=
  ((s.setLane k (takenResult s k r).1).raiseLaneEvents k (takenResult s k r).2).actVoices k

theorem State.laneResult_on (hon : s.lanes[k].settings.on = true) :
    s.laneResult k r = (s.resultTaken k r).noteArrival k (takenResult s k r).2.arrival := if_pos hon

theorem State.actVoices_frame_self : s.actVoices k = { s with
    voices := (s.actVoices k).voices, ageList := (s.actVoices k).ageList, releaseList := (s.actVoices k).releaseList
    channels := (s.actVoices k).channels, notices := (s.actVoices k).notices, choiceNo := (s.actVoices k).choiceNo } := by
  obtain ⟨_, _, _, _, _, _, h⟩ := State.actVoices_frame s k
  rw [h]

theorem State.resultTaken_frame : s.resultTaken k r = { s with
    lanes := s.lanes.set k (takenResult s k r).1
    voices := (s.resultTaken k r).voices, ageList := (s.resultTaken k r).ageList
    releaseList := (s.resultTaken k r).releaseList, channels := (s.resultTaken k r).channels
    notices := (s.resultTaken k r).notices, choiceNo := (s.resultTaken k r).choiceNo } :=
  (State.actVoices_frame_self _ k).trans (congrArg (fun u : State => { u with
    voices := (s.resultTaken k r).voices, ageList := (s.resultTaken k r).ageList
    releaseList := (s.resultTaken k r).releaseList, channels := (s.resultTaken k r).channels
    notices := (s.resultTaken k r).notices, choiceNo := (s.resultTaken k r).choiceNo })
    (State.raiseLaneEvents_frame (s.setLane k (takenResult s k r).1) k (takenResult s k r).2))

theorem State.resultTaken_get {j : Fin 17} (hj : j ≠ 6) : (s.resultTaken k r).notices[j] =
    if j = 3 then (if (takenResult s k r).2.lost then raiseNotice s.notices[j] k.val else s.notices[j])
    else if j = 4 then (if (takenResult s k r).2.locked then raiseNotice s.notices[j] k.val else s.notices[j])
    else s.notices[j] :=
  (State.actVoices_get _ k hj).trans (State.raiseLaneEvents_get _ k _ j)

/-- A lane's result and the note arrival after it. -/
theorem State.laneResult_frame (hon : s.lanes[k].settings.on = true) : s.laneResult k r = { s with
    lanes := s.lanes.set k (takenResult s k r).1
    voices := (s.resultTaken k r).voices, ageList := (s.resultTaken k r).ageList
    releaseList := (s.resultTaken k r).releaseList, channels := (s.resultTaken k r).channels
    choiceNo := (s.resultTaken k r).choiceNo, notices := (s.laneResult k r).notices
    queue := (s.laneResult k r).queue, cue := (s.laneResult k r).cue, link := (s.laneResult k r).link } := by
  rw [State.laneResult_on s k r hon]
  exact (State.noteArrival_frame (s.resultTaken k r) k _).trans (congrArg (fun u : State => { u with
    queue := ((s.resultTaken k r).noteArrival k (takenResult s k r).2.arrival).queue
    cue := ((s.resultTaken k r).noteArrival k (takenResult s k r).2.arrival).cue
    link := ((s.resultTaken k r).noteArrival k (takenResult s k r).2.arrival).link
    notices := ((s.resultTaken k r).noteArrival k (takenResult s k r).2.arrival).notices })
    (State.resultTaken_frame s k r))

theorem State.laneResult_get (hon : s.lanes[k].settings.on = true) {j : Fin 17} (h6 : j ≠ 6) (h11 : j ≠ 11) :
    (s.laneResult k r).notices[j] =
      if j = 3 then (if (takenResult s k r).2.lost then raiseNotice s.notices[j] k.val else s.notices[j])
      else if j = 4 then (if (takenResult s k r).2.locked then raiseNotice s.notices[j] k.val else s.notices[j])
      else s.notices[j] := by
  rw [State.laneResult_on s k r hon]
  exact (State.noteArrival_get _ k _ h11).trans (State.resultTaken_get s k r h6)

theorem State.laneResult_fires (hon : s.lanes[k].settings.on = true) (h : CueFires s.cue k (takenResult s k r).2.arrival) :
    (s.laneResult k r).queue = s.queue ++ [.take s.cue.scene] ∧
    (s.laneResult k r).cue = { s.cue with armed := false, remaining := 0 } ∧
    (s.laneResult k r).link = { s.link with headWaits := false } ∧
    (s.laneResult k r).notices[(11 : Fin 17)] = raiseNotice s.notices[(11 : Fin 17)] s.cue.scene.val := by
  have hframe := State.resultTaken_frame s k r
  have hnotice := State.resultTaken_get s k r (j := 11) (by decide)
  have hqueue : (s.resultTaken k r).queue = s.queue := (congrArg State.queue hframe :)
  have hcue : (s.resultTaken k r).cue = s.cue := (congrArg State.cue hframe :)
  have hlink : (s.resultTaken k r).link = s.link := (congrArg State.link hframe :)
  rw [← hcue] at h
  rw [State.laneResult_on s k r hon, State.noteArrival_of_fires h, ← hqueue, ← hcue, ← hlink]
  exact ⟨rfl, rfl, rfl, ((State.raise_get _ .cueFired _ 11).trans (if_pos rfl)).trans (congrArg (raiseNotice · _) hnotice)⟩

theorem State.laneResult_quiet (hon : s.lanes[k].settings.on = true) (h : ¬CueFires s.cue k (takenResult s k r).2.arrival) :
    (s.laneResult k r).queue = s.queue ∧ (s.laneResult k r).cue = s.cue ∧ (s.laneResult k r).link = s.link ∧
    (s.laneResult k r).notices[(11 : Fin 17)] = s.notices[(11 : Fin 17)] := by
  have hframe := State.resultTaken_frame s k r
  have hcue : (s.resultTaken k r).cue = s.cue := (congrArg State.cue hframe :)
  rw [← hcue] at h
  rw [State.laneResult_on s k r hon, State.noteArrival_of_not_fires h]
  exact ⟨(congrArg State.queue hframe :), hcue, (congrArg State.link hframe :),
    State.resultTaken_get s k r (j := 11) (by decide)⟩

theorem State.laneResult_lane (hon : s.lanes[k].settings.on = true) :
    (s.laneResult k r).lanes[k] = (takenResult s k r).1 := by
  rw [State.laneResult_frame s k r hon]
  exact Vector.getElem_set_self _

end

/-- Settles O29: what the result leaves, field by field, and the armed cue fired or not. -/
theorem laneResultIsTaken : Obligations.LaneResultIsTaken := by
  intro s k r hreset hclock hdue l o fires raised
  have hexec : exec (.laneResult k r) s = .next (s.laneResult k r) :=
    congrArg _ (if_pos (resultDue_of s k hreset hclock hdue))
  refine ⟨fun hoff => hexec.trans (congrArg _ (if_neg (ne_true_of_eq_false hoff))), fun hon => ?_⟩
  have hframe := State.laneResult_frame s k r hon
  have hlane := State.laneResult_lane s k r hon
  have htally := takeResult_setUp l r s.keyMap.ref
  exact ⟨_, hexec, (congrArg State.lanes hframe :), (congrArg Lane.resultCount hlane).trans (congrArg (fun x => x.2.2.1) htally),
    (congrArg Lane.lastConfidence hlane).trans (congrArg (fun x => x.2.2.2) htally), State.laneResult_get s k r hon (by decide) (by decide),
    State.laneResult_get s k r hon (by decide) (by decide),
    fun j h3 h4 h6 h11 => (State.laneResult_get s k r hon h6 h11).trans ((if_neg h3).trans (if_neg h4)),
    State.laneResult_fires s k r hon, State.laneResult_quiet s k r hon, (congrArg State.keyMap hframe :),
    (congrArg State.scenes hframe :), (congrArg State.currentScene hframe :), (congrArg State.setlist hframe :),
    (congrArg State.chord hframe :), (congrArg State.mixers hframe :), (congrArg State.audio hframe :), (congrArg State.clock hframe :),
    (congrArg State.pedals hframe :), (congrArg State.port hframe :), (congrArg State.inReset hframe :),
    (congrArg State.sampleNo hframe :), (congrArg State.pending hframe :)⟩

/-! ### The results that end a hold and a reacquire (R10, R12) -/

section
variable {s : State} {k : LaneId} {r : LaneResult} (hon : s.lanes[k].settings.on = true)
  (hclass : classify s.lanes[k].chars r ≠ .voiced)
include hon hclass

theorem holdExpires_of (hstate : s.lanes[k].tracking = .hold)
    (hends : s.lanes[k].counter ≤ 1 ∨ s.lanes[k].p < s.lanes[k].chars.lowLimit ∨ s.lanes[k].chars.highLimit < s.lanes[k].p) :
    holdExpires s k r = true := by
  unfold holdExpires
  dsimp only
  rw [hon, hstate, decide_eq_true hclass, Bool.or_eq_true_iff.2 ?_]
  · rfl
  · refine hends.symm.imp (fun hout => ?_) fun hcounter => decide_eq_true (Nat.sub_eq_zero_of_le hcounter)
    refine (Bool.not_eq_true' _).mpr (eq_false_of_ne_true fun hin => ?_)
    exact hout.elim (not_lt.2 ((inLimits_iff _ _).1 hin).1) (not_lt.2 ((inLimits_iff _ _).1 hin).2)

theorem reacquireFails_of (hstate : s.lanes[k].tracking = .reacquire) (hcounter : s.lanes[k].counter ≤ 1) :
    reacquireFails s k r = true := by
  unfold reacquireFails
  dsimp only
  rw [hon, hstate, decide_eq_true hclass, Nat.sub_eq_zero_of_le hcounter]
  rfl

end

/-- Settles O30: both rows take the result whole, and the lane's own equation says what it becomes. -/
theorem holdExpiryAndLaneLostAreResults : Obligations.HoldExpiryAndLaneLostAreResults := by
  intro s k r hreset hclock hdue hon hclass
  have hresultDue := resultDue_of s k hreset hclock hdue
  have hexec : exec (.laneResult k r) s = .next (s.laneResult k r) := congrArg _ (if_pos hresultDue)
  have htaken := takeResult_of_not_voiced (l := { s.lanes[k] with due := false }) s.keyMap.ref hclass
  have hlane := State.laneResult_lane s k r hon
  refine ⟨fun hstate hends => ?_, fun hstate hcounter => ?_⟩
  · have hrow : (resultDue s k && holdExpires s k r) = true :=
      Bool.and_eq_true_iff.2 ⟨hresultDue, holdExpires_of hon hclass hstate hends⟩
    have haway : ¬(s.lanes[k].chars.lowLimit ≤ s.lanes[k].p ∧ s.lanes[k].p ≤ s.lanes[k].chars.highLimit) ∨
        s.lanes[k].counter ≤ 1 :=
      hends.symm.imp_left fun hout hin => hout.elim (not_lt.2 hin.1) (not_lt.2 hin.2)
    have hleaves := hlane.trans (congrArg Prod.fst ((htaken.trans (takeUnvoiced_hold hstate)).trans
      (congrArg (·, _) (if_pos haway))))
    exact ⟨s.laneResult k r, congrArg Host.Outcome.next (if_pos hrow), hexec, (congrArg Lane.tracking hleaves :), (congrArg Lane.counter hleaves :),
      (congrArg Lane.p hleaves :), (congrArg Lane.n hleaves :), (congrArg Lane.d hleaves :)⟩
  · have hrow : (resultDue s k && reacquireFails s k r) = true :=
      Bool.and_eq_true_iff.2 ⟨hresultDue, reacquireFails_of hon hclass hstate hcounter⟩
    have hgivesUp := (htaken.trans (takeUnvoiced_reacquire hstate)).trans (if_pos hcounter)
    have hleaves := hlane.trans (congrArg Prod.fst hgivesUp)
    exact ⟨s.laneResult k r, congrArg Host.Outcome.next (if_pos hrow), hexec, (congrArg Lane.tracking hleaves :), (congrArg Lane.counter hleaves :),
      (State.laneResult_get s k r hon (by decide) (by decide)).trans
        (if_pos (congrArg (fun o : Lane × LaneEvents => o.2.lost) hgivesUp))⟩

end Sys2Proof.Machine
end

section
/-! PROOF. The word-clock edges that no row names, and the rows that let them go by (R131, R159, R167, R169). -/

namespace Sys2Proof.Machine

/-! ### The supervisor's counts -/

section
variable {c : Supervisor}

theorem countEdges_present (h : c.state = .present) {n : Nat} (hn : n ≠ 0) :
    countEdges n c = { c with period := c.period + n, gap := 0 } := by
  rw [countEdges, if_neg hn, h]

theorem countEdges_settling (h : c.state = .settling) {n : Nat} (hn : n ≠ 0) :
    countEdges n c = { c with settle := c.settle + n, gap := 0 } := by
  rw [countEdges, if_neg hn, h]

/-- The edges before a boundary. -/
theorem countEdges_to_boundary (h : c.state = .present) (hperiod : c.period ≤ 255) :
    countEdges (255 - c.period) c = { c with period := 255, gap := if c.period = 255 then c.gap else 0 } := by
  by_cases hlast : c.period = 255
  · rw [if_pos hlast, hlast, countEdges, if_pos rfl, ← hlast]
  · rw [if_neg hlast, countEdges_present h (Nat.sub_ne_zero_of_lt (Nat.lt_of_le_of_ne hperiod hlast)),
      Nat.add_sub_of_le hperiod]

theorem countEdges_succ (n : Nat) : countEdges n (countEdges 1 c) = countEdges (n + 1) c := by
  obtain rfl | hn := Nat.eq_zero_or_pos n
  · rfl
  match h : c.state with
  | .present =>
    rw [countEdges_present h n.succ_ne_zero, countEdges_present h Nat.one_ne_zero,
      countEdges_present (c := { c with period := c.period + 1, gap := 0 }) h hn.ne', Nat.add_assoc, Nat.add_comm 1 n]
  | .settling =>
    rw [countEdges_settling h n.succ_ne_zero, countEdges_settling h Nat.one_ne_zero,
      countEdges_settling (c := { c with settle := c.settle + 1, gap := 0 }) h hn.ne', Nat.add_assoc, Nat.add_comm 1 n]
  | .lost =>
    have still {n : Nat} : countEdges n c = c := by
      unfold countEdges
      rw [h]
      exact ite_self c
    rw [still, still, still]

theorem edgesLeft_countEdges (hleft : edgesLeft c ≠ 0) : edgesLeft (countEdges 1 c) = edgesLeft c - 1 := by
  match h : c.state with
  | .present =>
    rw [countEdges_present h Nat.one_ne_zero, edgesLeft_present (c := { c with period := c.period + 1, gap := 0 }) h, edgesLeft_present h]
    rfl
  | .settling =>
    rw [countEdges_settling h Nat.one_ne_zero, edgesLeft_settling (c := { c with settle := c.settle + 1, gap := 0 }) h, edgesLeft_settling h]
    rfl
  | .lost => exact absurd (by rw [edgesLeft, h]) hleft

end

/-! ### Runs of edges -/

section
variable (s : State)

/-- What a run of edges changes. -/
theorem State.runEdges_eq (n : Nat) : s.runEdges n = { s with
    channels := (s.runEdges n).channels, mixers := (s.runEdges n).mixers, audio := (s.runEdges n).audio
    sampleNo := s.sampleNo + n, clock := countEdges n s.clock } := by
  obtain ⟨_, _, _, h⟩ := s.runEdges_frame n
  rw [h]

theorem State.runEdges_pass (n : Nat) :
    PeriodsPass s.clock.state n s (s.runEdges n).channels (s.runEdges n).mixers (s.runEdges n).audio :=
  samplePeriods_pass n

/-- The audio side reads the clock's state alone. -/
theorem State.samplePeriods_withClock {c : Supervisor} (h : c.state = s.clock.state) (n : Nat) :
    State.samplePeriods n { s with clock := c } = { s.samplePeriods n with clock := c } := by
  induction n generalizing s with
  | zero => rfl
  | succ n ih =>
    have hone : State.samplePeriod { s with clock := c } = { s.samplePeriod with clock := c } := by
      rw [State.samplePeriod_eq, State.samplePeriod_eq, h]
    exact (congrArg (State.samplePeriods n) hone).trans (ih s.samplePeriod h)

theorem State.runEdges_succ (n : Nat) : (s.runEdges 1).runEdges n = s.runEdges (n + 1) := by
  have hperiods := State.samplePeriods_withClock s.samplePeriod (countEdges_state 1 s.clock) n
  exact congrArg₂ (fun (u : State) c => { u with clock := c }) hperiods (countEdges_succ n)

end

/-! ### An empty queue (O2) -/

section
variable {s : State}

theorem step_idle (hpending : s.pending = []) : step s = .next s.idleEdge := by
  rw [step, hpending]

theorem idleEdge_of_left (hreset : s.inReset = false) (hleft : edgesLeft s.clock ≠ 0) : s.idleEdge = s.runEdges 1 :=
  if_neg (not_or.2 ⟨ne_true_of_eq_false hreset, hleft⟩)

/-- As many idle steps as there are edges left. -/
theorem iterate_idle {next : State → State} (hnext : ∀ t, t.pending = [] → next t = t.idleEdge) {n : Nat}
    (hpending : s.pending = []) (hreset : s.inReset = false) (hn : n ≤ edgesLeft s.clock) : next^[n] s = s.runEdges n := by
  induction n generalizing s with
  | zero => rfl
  | succ n ih =>
    have hleft : edgesLeft s.clock ≠ 0 := Nat.ne_zero_of_lt hn
    have hframe := s.runEdges_eq 1
    rw [Function.iterate_succ_apply, hnext s hpending, idleEdge_of_left hreset hleft]
    refine (ih ((congrArg State.pending hframe :).trans hpending) ((congrArg State.inReset hframe :).trans hreset) ?_).trans (State.runEdges_succ s n)
    rw [show (s.runEdges 1).clock = countEdges 1 s.clock from rfl, edgesLeft_countEdges hleft]
    exact Nat.le_sub_of_add_le hn

theorem le_edgesLeft {n : Nat} (h : (s.inReset = false ∧ s.clock.state = .present) ∧ s.clock.period + n ≤ 255 ∨
    (s.inReset = false ∧ s.clock.state = .settling) ∧ s.clock.settle + n ≤ 511) :
    s.inReset = false ∧ n ≤ edgesLeft s.clock := by
  obtain ⟨⟨hreset, hstate⟩, hn⟩ | ⟨⟨hreset, hstate⟩, hn⟩ := h
  · exact ⟨hreset, edgesLeft_present hstate ▸ Nat.le_sub_of_add_le' hn⟩
  · exact ⟨hreset, edgesLeft_settling hstate ▸ Nat.le_sub_of_add_le' hn⟩

end

/-- Settles O2: one idle step is one edge where one is left, and `n` of them are a run of `n`. -/
theorem idleStepIsOneWordClockEdge : Obligations.IdleStepIsOneWordClockEdge := by
  intro s hpending _ present settling next
  have hstep := step_idle hpending
  have hone (hreset : s.inReset = false) (hleft : edgesLeft s.clock ≠ 0) :=
    hstep.trans (congrArg Host.Outcome.next (idleEdge_of_left hreset hleft))
  refine ⟨fun h => hstep.trans (congrArg _ (if_pos ?_)), fun ⟨hreset, hstate⟩ hperiod => ?_,
    fun ⟨hreset, hstate⟩ hsettle => ?_, fun n h => ?_⟩
  · refine h.imp_right fun h => ?_
    obtain hstate | ⟨hstate, hlast⟩ | ⟨hstate, hlast⟩ := h
    · rw [edgesLeft, hstate]
    · rw [edgesLeft_present hstate, hlast]
    · rw [edgesLeft_settling hstate, hlast]
  · have hpasses := samplePeriod_passes s
    rw [hstate] at hpasses
    have hleft : edgesLeft s.clock ≠ 0 := edgesLeft_present hstate ▸ Nat.sub_ne_zero_of_lt hperiod
    exact ⟨_, _, _, hpasses, (hone hreset hleft).trans (congrArg (fun c => Host.Outcome.next { s.samplePeriod with clock := c })
      (countEdges_present hstate Nat.one_ne_zero))⟩
  · have hpasses := samplePeriod_passes s
    rw [hstate] at hpasses
    have hleft : edgesLeft s.clock ≠ 0 := edgesLeft_settling hstate ▸ Nat.sub_ne_zero_of_lt hsettle
    exact ⟨_, _, _, hpasses, (hone hreset hleft).trans (congrArg (fun c => Host.Outcome.next { s.samplePeriod with clock := c })
      (countEdges_settling hstate Nat.one_ne_zero))⟩
  · obtain ⟨hreset, hn⟩ := le_edgesLeft h
    have hnext (t : State) (ht : t.pending = []) : next t = t.idleEdge := by
      dsimp only [next]
      rw [step_idle ht]
    exact ⟨iterate_idle hnext hpending hreset hn, s.runEdges_pass n, (congrArg State.sampleNo (s.runEdges_eq n) :)⟩

/-! ### The rows that let edges go by (O42, O43) -/

/-- Settles O42: the edges before the boundary, then the cue's expiry. -/
theorem cueExpiresBeforeApplication : Obligations.CueExpiresBeforeApplication := by
  intro s hreset hstate hperiod htaken harmed htimeout hremaining edges w
  have hpass := s.runEdges_pass edges
  rw [hstate] at hpass
  refine ⟨hpass, (congrArg Host.Outcome.next (if_pos ?_)).trans (congrArg Host.Outcome.next ?_)⟩
  · rw [cueExpires, hreset, hstate, htaken, harmed, decide_eq_true htimeout, decide_eq_true hremaining]
    rfl
  · rw [edgesLeft_present hstate]
    have hclock := countEdges_to_boundary hstate hperiod
    have hw := s.runEdges_eq edges
    rw [hclock] at hw
    exact (congrArg (fun u : State => { u.expireCue with clock := { u.clock with countdownTaken := true } }) hw).trans
      (by rw [State.expireCue_eq])

/-- Settles O43: the fade's last sample silences the channel, which the row then leaves so. -/
theorem cutFadeEnds : Obligations.CutFadeEnds := by
  intro s i hreset hcutting hposition n w hcount
  have hpass := s.runEdges_pass n
  have hfaded : w.channels[i] = { s.channels[i] with state := .silent, position := 256, phase := 0, y := 0 } :=
    samplePeriods_channel_faded n hcutting hposition (Nat.add_sub_of_le hposition.le).ge
  have hn : n ≠ 0 := Nat.sub_ne_zero_of_lt hposition
  obtain ⟨-, hleft⟩ := le_edgesLeft (s := s) (n := n) (hcount.imp (.imp_left (.intro hreset)) (.imp_left (.intro hreset)))
  refine ⟨hpass, hfaded, (congrArg Host.Outcome.next (if_pos ⟨ne_true_of_eq_false hreset, hcutting, hleft⟩)).trans
    (congrArg Host.Outcome.next ?_)⟩
  have hsame : w.setChannel i (silenced w.channels[i]) = w := by
    have hchannel : silenced w.channels[i] = w.channels[i] := by
      rw [hfaded]
      rfl
    rw [hchannel]
    exact congrArg (fun cs => { w with channels := cs }) (Vector.set_getElem_self _)
  refine (hsame.trans (s.runEdges_eq n)).trans (congrArg (fun c => { s with
    channels := w.channels, mixers := w.mixers, audio := w.audio, sampleNo := s.sampleNo + n, clock := c }) ?_)
  obtain ⟨hstate, -⟩ | ⟨hstate, -⟩ := hcount
  · exact (countEdges_present hstate hn).trans (if_pos hstate).symm
  · exact (countEdges_settling hstate hn).trans (if_neg (ne_of_eq_of_ne hstate (by decide))).symm

end Sys2Proof.Machine
end

section
/-! PROOF. A ramp's value and one side of a lane's mix (R156, R162). -/

namespace Sys2Proof.Machine

/-- The value that a ramp rounds toward zero is not negative. -/
theorem rampAt_cast (a b : Nat) {j : Nat} (hj : j ≤ 256) : (rampAt a b j : Int) = a + (((b : Int) - a) * j).tdiv 256 := by
  refine Int.toNat_of_nonneg ?_
  obtain hle | hle := Nat.le_total a b
  · exact Int.add_nonneg (Int.natCast_nonneg a) (Int.tdiv_nonneg (Int.mul_nonneg (Int.sub_nonneg_of_le (Int.ofNat_le.2 hle))
      (Int.natCast_nonneg j)) (by decide))
  · obtain ⟨d, rfl⟩ := Nat.exists_eq_add_of_le hle
    rw [← Int.neg_sub, Int.natCast_add, Int.add_comm (b : Int) d, Int.add_sub_cancel, Int.neg_mul, Int.neg_tdiv,
      ← Int.natCast_mul, ← Int.natCast_add]
    exact Int.sub_nonneg_of_le (Int.ofNat_le.2 ((ramp_part_le d hj).trans (Nat.le_add_right d b)))

/-- Integer division toward zero rounds the quotient toward zero. -/
theorem tdiv_eq_round (n : Int) {d : Nat} (hd : 0 < d) :
    n.tdiv d = if 0 ≤ (n / d : ℚ) then ⌊(n / d : ℚ)⌋ else ⌈(n / d : ℚ)⌉ := by
  have hpos : (0 : ℚ) < d := Nat.cast_pos.2 hd
  rw [Rat.floor_intCast_div_natCast, Rat.ceil_intCast_div_natCast]
  split
  case isTrue h =>
    exact Int.tdiv_eq_ediv_of_nonneg (not_lt.1 fun hneg =>
      not_le.2 (div_neg_of_neg_of_pos (Int.cast_lt_zero.2 hneg) hpos) h)
  case isFalse h =>
    have hn : 0 ≤ -n := Int.neg_nonneg_of_nonpos (Int.not_le.1 fun hle =>
      h (div_nonneg (Int.cast_nonneg hle) hpos.le)).le
    rw [← Int.tdiv_eq_ediv_of_nonneg hn, Int.neg_tdiv, Int.neg_neg]

/-- The sum of the voices, over one denominator. -/
theorem voiceSum_eq (terms : List (Int × Nat × Nat)) :
    (terms.map fun t => (t.1 : ℚ) * t.2.1 / 4096 * t.2.2 / 127).sum =
      ((terms.map fun t => t.1 * (t.2.1 : Int) * (t.2.2 : Int)).sum : Int) / (4096 * 127) := by
  induction terms with
  | nil => exact (zero_div _).symm
  | cons t l ih =>
    rw [List.map_cons, List.map_cons, List.sum_cons, List.sum_cons, ih, Int.cast_add, add_div, div_mul_eq_mul_div, div_div,
      Int.cast_mul, Int.cast_mul, Int.cast_natCast, Int.cast_natCast]

theorem outputSample_toInt (n d : Int) : (outputSample n d).toInt = max (-8388608) (min 8388607 (n.tdiv d)) :=
  BitVec.toInt_ofInt_eq_self (by decide) (le_max_left _ _)
    (Int.lt_add_one_of_le (max_le (by decide) (min_le_left _ _)))

/-- Settles O44: the mix has one denominator, and the division by it is the only rounding. -/
theorem mixIsExactAndRoundedOnce : Obligations.MixIsExactAndRoundedOnce := by
  refine ⟨fun a b j hj => rampAt_cast a b hj, fun beta dry x terms => ?_⟩
  dsimp only
  rw [mixSide, outputSample_toInt, voiceSum_eq]
  generalize (terms.map fun t => t.1 * (t.2.1 : Int) * (t.2.2 : Int)).sum = voices
  have hq : (beta * x / 4096 + (4096 - beta) / 4096 * (dry * x / 4096 + voices / (4096 * 127)) : ℚ) =
      ((beta * x * 4096 * 127 + (4096 - (beta : Int)) * (dry * x * 127 + voices) : Int) : ℚ) /
        (4096 * 4096 * 127 : Nat) := by
    rw [← mul_div_mul_right ((beta : ℚ) * x) 4096 (c := 4096 * 127) (by norm_num),
      ← mul_div_mul_right ((dry : ℚ) * x) 4096 (c := 127) (by norm_num), ← add_div, div_mul_div_comm, ← add_div]
    push_cast
    rw [mul_assoc ((beta : ℚ) * x)]
    norm_num only
  rw [hq, ← tdiv_eq_round _ (by decide)]
  rfl

end Sys2Proof.Machine
end

section
/-! PROOF. RESTART, the soft reset (R166, R173, R174). -/

namespace Sys2Proof.Machine

/-! ### The soft reset act -/

/-- The notices at a soft reset, RESTARTED raised with its cause. -/
noncomputable def restartedNotices (ns : Vector Notice 17) : Vector Notice 17 :=
  (ns.map softResetNotice).set 0 (raiseNotice (ns.map softResetNotice)[(0 : Fin 17)] 3)

/-- The soft reset of a state that differs from `s` in its port alone. -/
theorem State.softReset_eq {s u : State} (h : u = { s with port := u.port }) : u.softReset = { u with
    lanes := s.lanes.map softResetLane, voices := s.voices.map softResetVoice, ageList := [], releaseList := [], queue := []
    currentScene := none, setlist := { s.setlist with position := 0 }, cue := { s.cue with armed := false, remaining := 0 }
    link := .reset, chord := { entries := [], latch := s.chord.latch }, channels := s.channels.map softResetChannel
    mixers := s.mixers.map softResetMixer, notices := restartedNotices s.notices, pedals := s.pedals.map softResetPedal
    clock := { s.clock with frame := 0, cause := .restartCommand }
    port := { u.port with resultReady := false, result := .cleared, refusal := .cleared } } := by
  generalize u.port = p at h
  rw [h]
  rfl

theorem restartedNotices_get (s : State) (j : Fin 17) : (restartedNotices s.notices)[j] =
    { s.notices[j] with pending := j.val = 0, count := if j.val = 0 then 1 else 0, subject := if j.val = 0 then 3 else 0 } := by
  refine (State.raise_get { s with notices := s.notices.map softResetNotice } .restarted 3 j).trans ?_
  dsimp only
  rw [show (s.notices.map softResetNotice)[j] = softResetNotice s.notices[j] from Vector.getElem_map ..]
  by_cases hj : j.val = 0
  · rw [if_pos (Fin.ext hj.symm : NoticeKind.restarted.number = j), decide_eq_true hj, if_pos hj, if_pos hj]
    rfl
  · rw [if_neg fun h : NoticeKind.restarted.number = j => hj (congrArg Fin.val h.symm), decide_eq_false hj, if_neg hj, if_neg hj]
    rfl

/-! ### The rows of RESTART -/

section
variable {s : State} {f : CommandFrame}

theorem atTaking_resetActMade (s : State) (c : Command) :
    (atTaking s c).port.resetActMade = s.port.resetActMade := by
  unfold atTaking
  split
  all_goals rfl

theorem atTaking_frame_self (s : State) (c : Command) : atTaking s c = { s with port := (atTaking s c).port } := by
  obtain ⟨_, h⟩ := atTaking_frame s c
  rw [h]

theorem exec_restart (htakes : Takes s ⟨0x05, f⟩) (actOnly : Bool) :
    exec (.restart ⟨f, actOnly⟩) s = .next (State.takeRestart ⟨f, actOnly⟩ (atTaking s ⟨0x05, f⟩)) :=
  congrArg _ (State.commandRow_takes htakes _)

variable (hlength : f.declared = 0)
include hlength

theorem takeRestart_whole (hmade : s.port.resetActMade = false) :
    s.takeRestart ⟨f, false⟩ = doneState s.softReset [3] := by
  rw [State.takeRestart, if_neg (fun h => ne_true_of_eq_false hmade h.2), if_neg (fun h => Bool.false_ne_true h.2)]
  exact State.takeCommand_of_length s ⟨0x05, f⟩ answerRestart (by rw [hlength]; rfl)

theorem takeRestart_act (hmade : s.port.resetActMade = false) : s.takeRestart ⟨f, true⟩ = s.makeResetAct := by
  rw [State.takeRestart, if_neg (fun h => ne_true_of_eq_false hmade h.2), if_pos ⟨hlength, rfl⟩]

theorem takeRestart_made (hmade : s.port.resetActMade = true) (actOnly : Bool) :
    s.takeRestart ⟨f, actOnly⟩ = if actOnly then s else s.finishRestart := by
  rw [State.takeRestart, if_pos ⟨hlength, hmade⟩]

end

/-- The result written after the act is the one that the whole row writes. -/
theorem finishRestart_makeResetAct {s : State} (hmade : s.port.resetActMade = false) :
    s.makeResetAct.finishRestart = doneState s.softReset [3] :=
  congrArg (fun b => doneState { s.softReset with port := { s.softReset.port with resetActMade := b } } [3]) hmade.symm

theorem exists_six {α β γ δ ε ζ : Type} {P : α → β → γ → δ → ε → ζ → Prop} {a : α} {b : β} {c : γ} {d : δ} {e : ε} {f : ζ}
    (h : P a b c d e f) : ∃ a b c d e f, P a b c d e f := ⟨a, b, c, d, e, f, h⟩

/-- Settles O11: the act written out over the state that takes the command, and the row in one step and in two. -/
theorem restartIsSoftReset : Obligations.RestartIsSoftReset := by
  intro s f htakes hlength u
  have hframe := atTaking_frame_self s ⟨0x05, f⟩
  have hact := State.softReset_eq hframe
  have hmade := atTaking_resetActMade s ⟨0x05, f⟩
  refine ⟨fun hnot => ?_, fun h => ⟨?_, ?_⟩⟩
  · have hreset : u.port.resetActMade = false := hmade.trans hnot
    have hwhole := (exec_restart htakes false).trans (congrArg _ (takeRestart_whole hlength hreset))
    have honly := (exec_restart htakes true).trans (congrArg _ (takeRestart_act hlength hreset))
    have hexecuting : u.makeResetAct.port.executing = some ⟨0x05, f⟩ := atTaking_executing
    have hhold : u.makeResetAct.inReset = false := ((congrArg State.inReset hframe :).trans htakes.1 :)
    have hrest : exec (.restart ⟨f, false⟩) u.makeResetAct = .next (doneState u.softReset [3]) := by
      rw [exec_restart ⟨hhold, .inl hexecuting⟩, atTaking, if_pos hexecuting, takeRestart_made hlength rfl]
      exact congrArg _ (finishRestart_makeResetAct hreset)
    rw [State.makeResetAct, hact] at honly hrest
    rw [hact] at hwhole
    refine exists_six ⟨hwhole, honly, hrest, fun k => Vector.getElem_map .., fun i => Vector.getElem_map ..,
      restartedNotices_get s, fun p => Vector.getElem_map .., fun i => ⟨fun h => ?_, fun h => ?_⟩, fun k => Vector.getElem_map ..⟩
    · exact (Vector.getElem_map ..).trans (if_neg h)
    · exact (Vector.getElem_map ..).trans (if_pos h)
  · exact (exec_restart htakes true).trans (congrArg _ (takeRestart_made hlength (hmade.trans h) true))
  · exact (exec_restart htakes false).trans (congrArg _ (takeRestart_made hlength (hmade.trans h) false))

end Sys2Proof.Machine
end

section
/-! PROOF. Messages of the show and pedals: setlist steps, takes and fires (R93, R122, R123, R132, R143, R144, R180, R181). -/

namespace Sys2Proof.Machine

/-! ### Steps of the setlist and places in the queue -/

theorem hasPlace_iff_room {src : Source} (h : src ≠ .armedCue) (s : State) : hasPlace s src = true ↔ Room s := by
  rw [hasPlace_iff, if_congr (and_iff_left h) rfl rfl]

/-- What a step by one place comes to, whatever a move and the end of the list mean. -/
theorem step_by_one {l : Setlist} {ask : StepAsk} {inside : Prop} [Decidable inside] {p q : Nat} {Moves : Nat → Prop} {Ends : Prop}
    (table : decideStep l ask = if inside then .move p else if l.wrap then .move q else .endReached)
    (hmove : ∀ p, decideStep l ask = .move p → Moves p) (hends : decideStep l ask = .endReached → Ends) :
    (inside → Moves p) ∧ (¬inside → if l.wrap = true then Moves q else Ends) := by
  obtain ⟨hin, hround, hend⟩ := decideStep_byOne table
  refine ⟨fun h => hmove p (hin h), fun h => ?_⟩
  split
  case isTrue hwrap => exact hmove q (hround h hwrap)
  case isFalse hstop => exact hends (hend h (eq_false_of_ne_true hstop))

theorem position_of_empty {l : Setlist} (h : SetlistLegal l) (hempty : l.entries.length = 0) : l.position = 0 :=
  h.2.elim (fun hlt => absurd hlt (hempty ▸ Nat.not_lt_zero _)) And.right

/-- A move stages the take of the place's scene. -/
theorem State.moveTo_eq {s : State} {p : Nat} {n : SceneId} (h : s.setlist.entries[p]? = some n) :
    s.moveTo p = { s with queue := s.queue ++ [.take n], setlist := { s.setlist with position := p } } := by
  rw [State.moveTo, sceneAt, List.getD_eq_getElem?_getD, h]
  rfl

theorem State.fireArmed_of_ready {s : State} (h : s.link.headWaits = false) : s.fireArmed = { s with
    queue := s.queue ++ [.take s.cue.scene], cue := { s.cue with armed := false, remaining := 0 }
    notices := s.notices.set 11 (raiseNotice s.notices[(11 : Fin 17)] s.cue.scene.val) } :=
  congrArg (fun w => { s with
    queue := s.queue ++ [Entry.take s.cue.scene], cue := { s.cue with armed := false, remaining := 0 }
    link := { s.link with headWaits := w }
    notices := s.notices.set 11 (raiseNotice s.notices[(11 : Fin 17)] s.cue.scene.val) }) h.symm

/-! ### The messages of the show (R143, R144) -/

section
variable {s : State} {rest : List CueMessage} (hpop : s.popHead = s.setFifo rest)
include hpop

theorem linkStep_moves {forward : Bool} {p : Nat} (h : decideStep s.setlist (if forward then .next else .prev) = .move p)
    {n : SceneId} (hscene : s.setlist.entries[p]? = some n) : s.linkStep forward =
      if Room s then { s.setFifo rest with queue := s.queue ++ [.take n], setlist := { s.setlist with position := p } }
      else s.waitHead := by
  rw [State.linkStep, h, hpop]
  dsimp only
  rw [State.moveTo_eq (s := s.setFifo rest) hscene]
  exact if_congr (hasPlace_iff_room (src := .cueLink) (by decide) s) rfl rfl

theorem linkStep_ends {forward : Bool} (h : decideStep s.setlist (if forward then .next else .prev) = .endReached) :
    s.linkStep forward = (s.setFifo rest).raise .setlistEnd s.setlist.position := by
  rw [State.linkStep, h, hpop]

theorem linkStep_empty {forward : Bool} (hempty : s.setlist.entries.length = 0) :
    s.linkStep forward = (s.setFifo rest).raise .setlistEnd 0 := by
  rw [State.linkStep, decideStep_of_empty hempty, hpop]

variable {m : CueMessage} (hhead : handlerHead s = some m)
include hhead

theorem sceneCue_of_head {n : SceneId} (hm : m = .sceneCue n) : exec .sceneCue s = .next
    (if Room s then { s.setFifo rest with queue := s.queue ++ [.take n] } else s.waitHead) := by
  change execSceneCue s = _
  rw [execSceneCue, hhead, hm]
  dsimp only
  rw [hpop]
  exact congrArg _ (if_congr (hasPlace_iff_room (src := .cueLink) (by decide) s) rfl rfl)

theorem cueFire_of_head (hm : m = .cueFire) : exec .cueFire s = .next
    (if s.cue.armed then (s.setFifo rest).fireArmed else s.setFifo rest) := by
  change execCueFire s = _
  rw [execCueFire, hhead, hm]
  dsimp only
  rw [hpop]

omit hpop in
theorem setlistStep_of_head {forward : Bool} (hm : m = .setlistStep forward) :
    exec .setlistStep s = .next (s.linkStep forward) := by
  change execSetlistStep s = _
  rw [execSetlistStep, hhead, hm]

end

/-- Settles O51: each message by the row that takes it; a step by what the setlist decides. -/
theorem showMessagesTaken : Obligations.ShowMessagesTaken := by
  intro s m rest hreset hwaits hfifo hlegal popped waits len pos moves ends
  have hhead := handlerHead_of_cons hreset hwaits hfifo
  have hpop := State.popHead_of_cons hfifo
  refine ⟨fun n hm => sceneCue_of_head hpop hhead hm, fun forward hm => ?_, fun hm => ?_⟩
  · have hstep := setlistStep_of_head hhead hm
    have hmove (p : Nat) (h : decideStep s.setlist (if forward then .next else .prev) = .move p) : moves p :=
      fun n hscene => hstep.trans (congrArg _ (linkStep_moves hpop h hscene))
    have hends (h : decideStep s.setlist (if forward then .next else .prev) = .endReached) : ends :=
      hstep.trans (congrArg _ (linkStep_ends hpop h))
    refine ⟨fun hempty => ?_, fun hlen hforward => ?_, fun hlen hforward => ?_⟩
    · have hempties := hstep.trans (congrArg Host.Outcome.next (linkStep_empty hpop hempty))
      rw [← position_of_empty hlegal hempty] at hempties
      exact hempties
    · rw [hforward] at hmove hends
      obtain ⟨hin, hout⟩ := step_by_one (decideStep_next hlen) hmove hends
      exact ⟨hin, fun hlast => hout (Nat.not_lt.2 hlast.ge)⟩
    · rw [hforward] at hmove hends
      obtain ⟨hin, hout⟩ := step_by_one (decideStep_prev hlen) hmove hends
      exact ⟨hin, fun hfirst => hout (Nat.not_lt.2 hfirst.le)⟩
  · exact (cueFire_of_head hpop hhead hm).trans (congrArg _ (if_congr .rfl
      (State.fireArmed_of_ready (s := s.setFifo rest) hwaits) rfl))

/-! ### Pedals (R180, R181) -/

section
variable (s : State) (p : PedalId)

/-- Pedal `p`'s new held state taken, with its notice (R180). -/
noncomputable def State.pedalTaken (closed : Bool) (subject : Nat) : State :=
  (s.setPedal p { s.pedals[p] with closed := closed, differing := false }).raise .pedal subject

theorem pedalSample_same : State.pedalSample p s s.pedals[p].closed = s.setPedal p { s.pedals[p] with differing := false } :=
  if_pos rfl

variable {s p} {closed : Bool}

theorem pedalSample_first (h : closed ≠ s.pedals[p].closed) (hfirst : s.pedals[p].differing = false) :
    State.pedalSample p s closed = s.setPedal p { s.pedals[p] with differing := true } :=
  (if_neg h).trans (if_neg (ne_true_of_eq_false hfirst))

theorem pedalSample_release (h : s.pedals[p].closed = true) (hsecond : s.pedals[p].differing = true) :
    State.pedalSample p s false = s.pedalTaken p false (2 * p.val) :=
  ((if_neg (fun hc : false = _ => Bool.noConfusion (hc.trans h))).trans (if_pos hsecond)).trans
    (congrArg (s.pedalTaken p false) (Nat.mul_comm p.val 2))

theorem pedalSample_press (h : s.pedals[p].closed = false) (hsecond : s.pedals[p].differing = true) :
    State.pedalSample p s true = (s.pedalTaken p true (2 * p.val + 1)).runBinding p :=
  ((if_neg (fun hc : true = _ => Bool.noConfusion (hc.trans h))).trans (if_pos hsecond)).trans
    (congrArg (fun n => (s.pedalTaken p true (n + 1)).runBinding p) (Nat.mul_comm p.val 2))

theorem exec_pedal (hreset : s.inReset = false) (samples : List Bool) :
    exec (.pedal p samples) s = .next (samples.foldl (State.pedalSample p) s) :=
  congrArg Host.Outcome.next (if_neg (ne_true_of_eq_false hreset))

variable (s p)

theorem pedalStep_inReset (ask : StepAsk) : (s.pedalStep p ask).inReset = s.inReset := by
  unfold State.pedalStep
  split
  case h_3 => split <;> rfl
  all_goals rfl

theorem pedalToggle_inReset (k : LaneId) (g : LaneSettings → LaneSettings) : (s.pedalToggle p k g).inReset = s.inReset := by
  unfold State.pedalToggle
  split <;> rfl

theorem runBinding_inReset : (s.runBinding p).inReset = s.inReset := by
  unfold State.runBinding
  split
  case h_1 => rfl
  case h_2 | h_3 => exact pedalStep_inReset s p _
  case h_4 | h_5 => exact pedalToggle_inReset s p _ _
  case h_6 => split <;> rfl
  case h_7 => rfl

theorem pedalSample_inReset (closed : Bool) : (State.pedalSample p s closed).inReset = s.inReset := by
  unfold State.pedalSample State.takePedalChange
  dsimp only
  split
  · rfl
  · split
    · split
      · exact runBinding_inReset _ p
      · rfl
    · rfl

end

/-! ### What a binding does (R181) -/

/-- What binding `b` of pedal `p` does. -/
noncomputable def State.bound (s : State) (p : PedalId) (b : Binding) : State :=
  match b with
  | .none => s
  | .setlistNext => s.pedalStep p .next
  | .setlistPrev => s.pedalStep p .prev
  | .freezeToggle k => s.pedalToggle p k fun st => { st with freeze := !st.freeze }
  | .bypassToggle k => s.pedalToggle p k fun st => { st with bypass := !st.bypass }
  | .fireCue => if s.cue.armed then s.fireArmed else s
  | .chordClear => { s with chord := clearChord s.chord }

theorem State.runBinding_eq (s : State) (p : PedalId) : s.runBinding p = s.bound p s.pedals[p].binding := rfl

section
variable {s : State} {p : PedalId}

theorem pedalStep_moves {ask : StepAsk} {q : Nat} (h : decideStep s.setlist ask = .move q) {n : SceneId}
    (hscene : s.setlist.entries[q]? = some n) : s.pedalStep p ask =
      if Room s then { s with queue := s.queue ++ [.take n], setlist := { s.setlist with position := q } }
      else s.raise .queueOverflow p.val := by
  rw [State.pedalStep, h]
  dsimp only
  rw [State.moveTo_eq hscene]
  exact if_congr (hasPlace_iff_room (src := .pedal) (by decide) s) rfl rfl

theorem pedalStep_ends {ask : StepAsk} (h : decideStep s.setlist ask = .endReached) :
    s.pedalStep p ask = s.raise .setlistEnd s.setlist.position := by
  rw [State.pedalStep, h]

theorem pedalStep_empty (hempty : s.setlist.entries.length = 0) (ask : StepAsk) :
    s.pedalStep p ask = s.raise .setlistEnd 0 := by
  rw [State.pedalStep, decideStep_of_empty hempty]

theorem pedalToggle_eq (k : LaneId) (g : LaneSettings → LaneSettings) : s.pedalToggle p k g =
    if Room s then s.stage (.laneSettings k (g s.lanes[k].settings)) else s.raise .queueOverflow p.val :=
  if_congr (hasPlace_iff_room (src := .pedal) (by decide) s) rfl rfl

end

/-- Settles O52: a sample by what the pedal's record says, a press by its binding. -/
theorem pedalDebouncedAndBindingRun : Obligations.PedalDebouncedAndBindingRun := by
  refine ⟨fun s p hreset => ?_, fun s p hreset hopen hsecond hlegal => ?_⟩
  · refine ⟨fun c hc => ?_, fun c hc hfirst => ?_, fun hclosed hsecond => ?_, fun first rest => ?_⟩
    · rw [exec_pedal hreset, hc]
      exact congrArg _ (pedalSample_same s p)
    · exact (exec_pedal hreset _).trans (congrArg _ (pedalSample_first hc hfirst))
    · exact (exec_pedal hreset _).trans (congrArg _ (pedalSample_release hclosed hsecond))
    · have hkeeps : (first.foldl (State.pedalSample p) s).inReset = false :=
        List.foldlRecOn first _ (motive := fun u : State => u.inReset = false) hreset
          fun u hu c _ => (pedalSample_inReset u p c).trans hu
      exact ⟨_, exec_pedal hreset first, (exec_pedal hreset _).trans
        ((congrArg _ List.foldl_append).trans (exec_pedal hkeeps rest).symm)⟩
  · intro raised u run len pos moves toggles
    have hpress : exec (.pedal p [true]) s = .next (u.runBinding p) :=
      (exec_pedal hreset _).trans (congrArg _ (pedalSample_press hopen hsecond))
    have hrun {t : State} (h : u.runBinding p = t) : run t := hpress.trans (congrArg _ h)
    have hbinding : u.pedals[p].binding = s.pedals[p].binding :=
      (congrArg Pedal.binding ((State.setPedal_get s p p _).trans (if_pos rfl)) :)
    have hbound {b : Binding} (h : s.pedals[p].binding = b) : u.runBinding p = u.bound p b :=
      congrArg (u.bound p) (hbinding.trans h)
    have hstep {ask : StepAsk} (hask : u.runBinding p = u.pedalStep p ask) :
        (∀ q, decideStep s.setlist ask = .move q → moves q) ∧
        (decideStep s.setlist ask = .endReached → run (raised 13 pos u)) ∧ (len = 0 → run (raised 13 pos u)) := by
      refine ⟨fun q h n hscene => hrun (hask.trans (pedalStep_moves (s := u) h hscene)), fun h => hrun (hask.trans (pedalStep_ends (s := u) h)),
        fun hempty => hrun (hask.trans ?_)⟩
      rw [show pos = 0 from position_of_empty hlegal hempty]
      exact pedalStep_empty (s := u) hempty ask
    refine ⟨fun h => hrun (hbound h), fun h => ?_, fun h => ?_, fun k h => hrun ((hbound h).trans (pedalToggle_eq (s := u) (p := p) k fun st => { st with freeze := !st.freeze })),
      fun k h => hrun ((hbound h).trans (pedalToggle_eq (s := u) (p := p) k fun st => { st with bypass := !st.bypass })), fun h => hrun (hbound h), fun h => hrun (hbound h)⟩
    · obtain ⟨hmove, hend, hempty⟩ := hstep (hbound h)
      refine ⟨hempty, fun hlen => (step_by_one (decideStep_next hlen) hmove hend).1, fun hlen hlast =>
        (step_by_one (decideStep_next hlen) hmove hend).2 (Nat.not_lt.2 hlast.ge)⟩
    · obtain ⟨hmove, hend, hempty⟩ := hstep (hbound h)
      refine ⟨hempty, fun hlen => (step_by_one (decideStep_prev hlen) hmove hend).1, fun hlen hfirst =>
        (step_by_one (decideStep_prev hlen) hmove hend).2 (Nat.not_lt.2 hfirst.le)⟩

end Sys2Proof.Machine
end

section
/-! PROOF. The fields of a template, and MODIFY VOICE (R44, R45, R64). -/

namespace Sys2Proof.Machine

/-! ### The refusable fields (R44, R45) -/

theorem ruleOf_code (kind : RuleKind) (b : Byte) :
    ruleOf (ruleCode kind) b = if operandAllowed kind b.toInt then .ok (kind, b.toInt) else .error 3 := by
  induction kind with
  | scale | fixed | chord | pinned => rfl

theorem byte_ne_of_lt {b n : Byte} (h : n.toNat < b.toNat) : b ≠ n := fun heq => absurd h (heq ▸ Nat.lt_irrefl _)

theorem ruleOf_of_ge {kind : Byte} (h : 4 ≤ kind.toNat) (b : Byte) : ruleOf kind b = .error 2 := by
  have hne {n : Byte} (hn : n.toNat < 4) : kind ≠ n := byte_ne_of_lt (hn.trans_le h)
  rw [ruleOf, ruleKindOf?, if_neg (hne (by decide)), if_neg (hne (by decide)), if_neg (hne (by decide)),
    if_neg (hne (by decide))]

theorem groupOf_of_ge {b : Byte} (h : 2 ≤ b.toNat) : groupOf b = .error 12 := by
  have hne {n : Byte} (hn : n.toNat < 2) : b ≠ n := byte_ne_of_lt (hn.trans_le h)
  rw [groupOf, groupOf?, if_neg (hne (by decide)), if_neg (hne (by decide))]

/-- An operand within a rule's limits. -/
theorem within_iff {low high z : Int} : (decide (low ≤ z) && decide (z ≤ high)) = true ↔ low ≤ z ∧ z ≤ high := by
  rw [Bool.and_eq_true, decide_eq_true_iff, decide_eq_true_iff]

theorem operandAllowed_chord {z : Int} : operandAllowed .chord z = true ↔ -4 ≤ z ∧ z ≤ 4 ∧ z ≠ 0 := by
  rw [operandAllowed, Bool.or_eq_true, within_iff, within_iff]
  refine ⟨fun h => ?_, fun ⟨hlow, hhigh, hne⟩ => (Int.lt_or_gt_of_ne hne).imp (fun h => ⟨hlow, Int.le_sub_one_of_lt h⟩)
    fun h => ⟨h, hhigh⟩⟩
  obtain ⟨hlow, hhigh⟩ | ⟨hlow, hhigh⟩ := h
  · exact ⟨hlow, hhigh.trans (by decide), fun h => absurd (h ▸ hhigh) (by decide)⟩
  · exact ⟨le_trans (by decide) hlow, hhigh, fun h => absurd (h ▸ hlow) (by decide)⟩

/-! ### MODIFY VOICE (R64) -/

theorem byte_toInt_ne_zero {b : Byte} : b.toInt ≠ 0 ↔ b ≠ 0 :=
  not_congr ⟨fun h => BitVec.eq_of_toInt_eq (h.trans (by decide)), fun h => h ▸ rfl⟩

/-- An index that names no field which MODIFY VOICE can change. -/
theorem modificationOf_none {field : Byte} (h : field.toNat ∉ [2, 4, 5, 6, 7, 9, 10, 11, 12, 13, 14]) (hi lo : Byte) :
    modificationOf field hi lo = none := by
  have hne {n : Byte} (hn : n.toNat ∈ [2, 4, 5, 6, 7, 9, 10, 11, 12, 13, 14]) : ¬field = n := fun heq => h (heq ▸ hn)
  exact (if_neg (hne (by decide))).trans ((if_neg (hne (by decide))).trans ((if_neg (hne (by decide))).trans
    ((if_neg (hne (by decide))).trans ((if_neg (hne (by decide))).trans ((if_neg (hne (by decide))).trans
    ((if_neg (hne (by decide))).trans ((if_neg (hne (by decide))).trans ((if_neg (hne (by decide))).trans
    ((if_neg (hne (by decide))).trans (if_neg (hne (by decide))))))))))))

section
variable {f : CommandFrame} {s : State}

theorem answerModifyVoice_badTarget (h : 16 ≤ (operand f 0).toNat) :
    answerModifyVoice f s = .refused .badTarget (operand f 0).toNat := by
  rw [answerModifyVoice, checkHandle_of_ge h]

variable {i : Slot} {v : Voice} (hv : s.voices[i] = v) (h : (operand f 0).toNat = i.val)
include hv h

theorem answerModifyVoice_stale (hstale : v.state = .free ∨ v.generation.val ≠ (operand f 1).toNat) :
    answerModifyVoice f s = .refused .staleHandle (operand f 0).toNat := by
  rw [answerModifyVoice, checkHandle_of_stale h (hv ▸ hstale)]

variable (hcurrent : ¬(v.state = .free ∨ v.generation.val ≠ (operand f 1).toNat))
include hcurrent

theorem answerModifyVoice_noField (hnone : modificationOf (operand f 2) (operand f 3) (operand f 4) = none) :
    answerModifyVoice f s = .refused .badParam (operand f 2).toNat := by
  rw [answerModifyVoice, checkHandle_of_not_stale h (hv ▸ hcurrent)]
  dsimp only
  rw [hnone]

theorem answerModifyVoice_badField {e : Nat}
    (herror : modificationOf (operand f 2) (operand f 3) (operand f 4) = some (.error e)) :
    answerModifyVoice f s = .refused .badParam e := by
  rw [answerModifyVoice, checkHandle_of_not_stale h (hv ▸ hcurrent)]
  dsimp only
  rw [herror]

theorem answerModifyVoice_stages {m : Modification}
    (hok : modificationOf (operand f 2) (operand f 3) (operand f 4) = some (.ok m)) : answerModifyVoice f s =
      s.withPlace (.done (s.stage (.modify { slot := i, generation := v.generation } m)) (modificationBytes m)) := by
  subst hv
  rw [answerModifyVoice, checkHandle_of_not_stale h hcurrent]
  dsimp only
  rw [hok]

end

/-- A rule that MODIFY VOICE sends. -/
theorem modificationOf_rule (kind : RuleKind) (lo : Byte) : modificationOf 2 (ruleCode kind) lo =
    if operandAllowed kind lo.toInt then some (.ok (.rule kind lo.toInt)) else some (.error 3) := by
  change some ((ruleOf (ruleCode kind) lo).map fun r => Modification.rule r.1 r.2) = _
  rw [ruleOf_code, apply_ite (fun r => some (Except.map (fun r : RuleKind × Int => Modification.rule r.1 r.2) r))]
  rfl

theorem signedByte_toInt (b : Byte) : signedByte b.toInt = b := BitVec.ofInt_toInt

/-- Settles O18: what each field makes of the value, and the answer for each of the three outcomes. -/
theorem modifyVoiceStagesStoredValue : Obligations.ModifyVoiceStagesStoredValue := by
  intro s f htakes hlength u hi lo
  have hl : requiredLength 0x21 = some f.declared.toNat := by rw [hlength]; rfl
  refine ⟨fun hslot => congrArg _ (State.runCommand_refused_byte htakes hl (answerModifyVoice_badTarget hslot)),
    fun i hslot => ?_⟩
  have hv : (atTaking s ⟨0x21, f⟩).voices.get i = s.voices.get i := congrArg (Vector.get · i) (atTaking_voices s _)
  refine ⟨fun hstale => congrArg _ (State.runCommand_refused_byte htakes hl (answerModifyVoice_stale hv hslot hstale)),
    fun hused hgeneration => ?_⟩
  intro bad stages rule field
  have hcurrent := not_or.2 ⟨hused, not_not_intro hgeneration⟩
  have refuse {n : Nat} (hn : n < 256) (h : field = n) {e : Nat} (hm : modificationOf (BitVec.ofNat 8 n) hi lo = some (.error e)) :
      bad (byte e) := by
    rw [← h, show BitVec.ofNat 8 field = operand f 2 from byte_toNat _] at hm
    exact congrArg _ (State.runCommand_refused htakes hl (answerModifyVoice_badField hv hslot hcurrent hm))
  have stage {n : Nat} (h : field = n) {m : Modification} (hm : modificationOf (BitVec.ofNat 8 n) hi lo = some (.ok m))
      {bytes : List Byte} (hbytes : modificationBytes m = bytes) : stages m bytes := by
    rw [← h, show BitVec.ofNat 8 field = operand f 2 from byte_toNat _] at hm
    rw [← hbytes]
    exact congrArg _ ((State.runCommand_stages htakes hl (answerModifyVoice_stages hv hslot hcurrent hm)).trans (ite_not ..))
  have rules (kind : RuleKind) (low high : Int) (hcode : hi = ruleCode kind) (hfield : field = 2)
      (hallowed : operandAllowed kind lo.toInt = true ↔ low ≤ lo.toInt ∧ lo.toInt ≤ high ∧ (kind = .chord → lo ≠ 0)) :
      rule kind low high := by
    have hm := modificationOf_rule kind lo
    rw [← hcode] at hm
    dsimp only [rule]
    by_cases h : operandAllowed kind lo.toInt
    · rw [if_pos h] at hm
      rw [if_pos (hallowed.1 h)]
      exact stage hfield hm (congrArg₂ (fun a b => [a, b]) hcode.symm (signedByte_toInt lo))
    · rw [if_neg h] at hm
      rw [if_neg (mt hallowed.2 h)]
      exact refuse (by decide) hfield hm
  have plain (kind : RuleKind) (low high : Int) (hne : kind ≠ .chord) :
      (decide (low ≤ lo.toInt) && decide (lo.toInt ≤ high)) = true ↔
        low ≤ lo.toInt ∧ lo.toInt ≤ high ∧ (kind = .chord → lo ≠ 0) :=
    within_iff.trans (and_congr_right' (iff_self_and.2 fun _ h => absurd h hne))
  refine ⟨fun h => ?_, fun h => ⟨fun hc => rules _ _ _ hc h (plain _ _ _ (by decide)), fun hc => rules _ _ _ hc h (plain _ _ _ (by decide)),
    fun hc => rules _ _ _ hc h (operandAllowed_chord.trans ?_), fun hc => rules _ _ _ hc h (plain _ _ _ (by decide)),
    fun hc => refuse (by decide) h ?_⟩, fun h => ?_, fun h => stage h rfl rfl, fun h => ?_, fun h => ?_, fun h => stage h rfl rfl,
    fun h => ?_, fun h => stage h rfl rfl, fun h => ⟨fun hc => ?_, fun hc => ?_, fun hc => refuse (by decide) h ?_⟩,
    fun h => stage h rfl rfl, fun h => stage h rfl rfl⟩
  · exact congrArg _ (State.runCommand_refused_byte htakes hl (answerModifyVoice_noField hv hslot hcurrent (modificationOf_none h _ _)))
  · exact and_congr_right' (and_congr_right' (byte_toInt_ne_zero.trans ⟨fun h _ => h, fun h => h rfl⟩))
  · exact congrArg (fun r : Except Nat (RuleKind × Int) => some (r.map fun r => Modification.rule r.1 r.2)) (ruleOf_of_ge hc lo)
  · split
    next hin =>
      exact stage h (congrArg (fun r : Except Nat Int => some (r.map Modification.fallback)) (if_pos hin))
        (congrArg (fun b => [0, b]) (signedByte_toInt lo))
    next hout => exact refuse (by decide) h (congrArg (fun r : Except Nat Int => some (r.map Modification.fallback)) (if_neg hout))
  · exact stage h rfl rfl
  · have answer {r : Except Nat (Nat × Nat)} (hr : rangeOf hi lo = r) :
        modificationOf 7 hi lo = some (r.map fun r => Modification.range r.1 r.2) := hr ▸ rfl
    split
    next hlow => exact refuse (by decide) h (answer (if_pos hlow))
    next hlow =>
      split
      next hhigh => exact refuse (by decide) h (answer ((if_neg hlow).trans (if_pos hhigh)))
      next hhigh =>
        exact stage h (answer ((if_neg hlow).trans (if_neg hhigh)))
          (congrArg₂ (fun a b => [a, b]) (byte_toNat hi) (byte_toNat lo))
  · rw [← unsigned16_eq_toNat]
    exact stage h rfl ((bytes16_eq_be16 _).trans (congrArg be16 (Nat.cast_min ..)))
  · exact stage h (congrArg (fun b => some ((groupOf b).map Modification.group)) hc) rfl
  · exact stage h (congrArg (fun b => some ((groupOf b).map Modification.group)) hc) rfl
  · exact congrArg (fun r : Except Nat Group => some (r.map Modification.group)) (groupOf_of_ge hc)

end Sys2Proof.Machine
end

section
/-! PROOF. A template examined field by field (R44, R45). -/

namespace Sys2Proof.Machine

/-! ### What each refusable field asks (R44) -/

/-- Whether a template's field passes, as R44 has it. -/
def FieldPasses (b : Nat → Byte) (lane : Option LaneId) : Nat → Prop
  | 0 => b 0 ≠ 0
  | 1 => lane ≠ none
  | 2 => (b 2).toNat ≤ 3
  | 3 => (b 2 = 0 → -14 ≤ (b 3).toInt ∧ (b 3).toInt ≤ 14) ∧ (b 2 = 1 → -24 ≤ (b 3).toInt ∧ (b 3).toInt ≤ 24) ∧
         (b 2 = 2 → -4 ≤ (b 3).toInt ∧ (b 3).toInt ≤ 4 ∧ (b 3).toInt ≠ 0) ∧ (b 2 = 3 → (b 3).toNat ≤ 119)
  | 4 => -14 ≤ (b 4).toInt ∧ (b 4).toInt ≤ 14
  | 7 => 12 ≤ (b 7).toNat ∧ (b 7).toNat ≤ 108
  | 8 => 12 ≤ (b 8).toNat ∧ (b 8).toNat ≤ 108 ∧ (b 7).toNat + 12 ≤ (b 8).toNat
  | 12 => (b 13).toNat ≤ 1
  | _ => True

/-- A byte that holds a note number of the scale, read unsigned and signed. -/
theorem toNat_le_iff_toInt {b : Byte} : b.toNat ≤ 119 ↔ 0 ≤ b.toInt ∧ b.toInt ≤ 119 := by
  have same (h : 2 * b.toNat < 2 ^ 8) : b.toInt = b.toNat := BitVec.toInt_eq_toNat_of_lt h
  refine ⟨fun h => ?_, fun ⟨hlow, hhigh⟩ => ?_⟩
  · rw [same (Nat.lt_of_le_of_lt (Nat.mul_le_mul_left 2 h) (by decide))]
    exact ⟨Int.natCast_nonneg _, Int.ofNat_le.2 h⟩
  · have hsmall : 2 * b.toNat < 2 ^ 8 := Nat.lt_of_not_le fun h => absurd (BitVec.toInt_neg_iff.2 h) (Int.not_lt.2 hlow)
    exact Int.ofNat_le.1 (same hsmall ▸ hhigh)

/-- A rule kind's code. -/
theorem exists_ruleCode {b : Byte} (h : b.toNat ≤ 3) : ∃ kind, b = ruleCode kind := by
  obtain h | h | h | h := (by decide : ∀ n ≤ 3, n = 0 ∨ n = 1 ∨ n = 2 ∨ n = 3) _ h
  · exact ⟨.scale, BitVec.eq_of_toNat_eq h⟩
  · exact ⟨.fixed, BitVec.eq_of_toNat_eq h⟩
  · exact ⟨.chord, BitVec.eq_of_toNat_eq h⟩
  · exact ⟨.pinned, BitVec.eq_of_toNat_eq h⟩

variable {b : Nat → Byte} {lane : Option LaneId} {k : LaneId}

theorem fieldPasses_operand_iff {kind : RuleKind} (h : b 2 = ruleCode kind) :
    FieldPasses b lane 3 ↔ operandAllowed kind (b 3).toInt = true := by
  change (b 2 = 0 → _) ∧ (b 2 = 1 → _) ∧ (b 2 = 2 → _) ∧ (b 2 = 3 → _) ↔ _
  rw [h]
  have other {p q : Prop} (h : ¬p) : p → q := fun hp => absurd hp h
  induction kind with
  | scale =>
    exact ⟨fun h => within_iff.2 (h.1 rfl),
      fun h => ⟨fun _ => within_iff.1 h, other (by decide), other (by decide), other (by decide)⟩⟩
  | fixed =>
    exact ⟨fun h => within_iff.2 (h.2.1 rfl),
      fun h => ⟨other (by decide), fun _ => within_iff.1 h, other (by decide), other (by decide)⟩⟩
  | chord =>
    exact ⟨fun h => operandAllowed_chord.2 (h.2.2.1 rfl),
      fun h => ⟨other (by decide), other (by decide), fun _ => operandAllowed_chord.1 h, other (by decide)⟩⟩
  | pinned =>
    exact ⟨fun h => within_iff.2 (toNat_le_iff_toInt.1 (h.2.2.2 rfl)),
      fun h => ⟨other (by decide), other (by decide), other (by decide), fun _ => toNat_le_iff_toInt.2 (within_iff.1 h)⟩⟩

theorem ruleOf_of_passes {kind : RuleKind} (h : b 2 = ruleCode kind) (hpasses : FieldPasses b lane 3) :
    ruleOf (b 2) (b 3) = .ok (kind, (b 3).toInt) := by
  rw [h, ruleOf_code, if_pos ((fieldPasses_operand_iff h).1 hpasses)]

theorem ruleOf_of_not_passes {kind : RuleKind} (h : b 2 = ruleCode kind) (hfails : ¬FieldPasses b lane 3) :
    ruleOf (b 2) (b 3) = .error 3 := by
  rw [h, ruleOf_code, if_neg (mt (fieldPasses_operand_iff h).2 hfails)]

theorem rangeOf_of_passes (hlow : FieldPasses b lane 7) (hhigh : FieldPasses b lane 8) :
    rangeOf (b 7) (b 8) = .ok ((b 7).toNat, (b 8).toNat) :=
  (if_neg (not_not_intro hlow)).trans (if_neg (not_or.2 ⟨not_not_intro ⟨hhigh.1, hhigh.2.1⟩, Nat.not_lt.2 hhigh.2.2⟩))

theorem rangeOf_of_not_passes (hlow : FieldPasses b lane 7) (hfails : ¬FieldPasses b lane 8) : rangeOf (b 7) (b 8) = .error 8 :=
  (if_neg (not_not_intro hlow)).trans (if_pos ((not_and_or.1 (mt and_assoc.1 hfails)).imp_right Nat.lt_of_not_le))

theorem groupOf_of_le {g : Byte} (h : g.toNat ≤ 1) : groupOf g = .ok (if g = 0 then .foreground else .background) := by
  obtain h | h := Nat.le_one_iff_eq_zero_or_eq_one.1 h
  · rw [show g = 0 from BitVec.eq_of_toNat_eq h]; rfl
  · rw [show g = 1 from BitVec.eq_of_toNat_eq h]; rfl

/-! ### The fields in order (R45) -/

/-- Beyond the range the group alone is refusable. -/
theorem fieldPasses_of_gt {n : Nat} (hn : 8 < n) (hne : n ≠ 12) : FieldPasses b lane n := by
  obtain ⟨m, rfl⟩ := Nat.exists_eq_add_of_le' hn
  obtain _ | _ | _ | _ | m := m
  case succ.succ.succ.zero => exact absurd rfl hne
  all_goals trivial

/-- The first field that fails decides. -/
theorem templateOf_error {n : Nat} (hfails : ¬FieldPasses b lane n) (hbelow : ∀ j < n, FieldPasses b lane j) :
    templateOf b lane = .error n := by
  obtain rfl | hn := Nat.eq_zero_or_pos n
  · exact if_pos (not_not.1 hfails)
  have htag : b 0 ≠ 0 := hbelow 0 hn
  obtain rfl | hn := Nat.eq_or_lt_of_le hn
  · rw [not_not.1 hfails]
    exact if_neg htag
  obtain ⟨k, rfl⟩ := Option.ne_none_iff_exists'.1 (hbelow 1 hn)
  refine (templateOf_eq htag).trans ?_
  obtain rfl | hn := Nat.eq_or_lt_of_le hn
  · exact congrArg (Except.bind · _) (ruleOf_of_ge (Nat.lt_of_not_le hfails) _)
  obtain ⟨kind, hkind⟩ := exists_ruleCode (hbelow 2 hn)
  obtain rfl | hn := Nat.eq_or_lt_of_le hn
  · exact congrArg (Except.bind · _) (ruleOf_of_not_passes hkind hfails)
  refine (congrArg (Except.bind · _) (ruleOf_of_passes hkind (hbelow 3 hn))).trans ?_
  change (fallbackOf (b 4)).bind _ = _
  obtain rfl | hn := Nat.eq_or_lt_of_le hn
  · exact congrArg (Except.bind · _) (show fallbackOf (b 4) = .error 4 from if_neg hfails)
  refine (congrArg (Except.bind · _) (show fallbackOf (b 4) = .ok (b 4).toInt from if_pos (hbelow 4 hn))).trans ?_
  change (rangeOf (b 7) (b 8)).bind _ = _
  obtain rfl | hn := Nat.eq_or_lt_of_le hn
  · exact absurd trivial hfails
  obtain rfl | hn := Nat.eq_or_lt_of_le hn
  · exact absurd trivial hfails
  obtain rfl | hn := Nat.eq_or_lt_of_le hn
  · exact congrArg (Except.bind · _) (show rangeOf (b 7) (b 8) = .error 7 from if_pos hfails)
  obtain rfl | hn := Nat.eq_or_lt_of_le hn
  · exact congrArg (Except.bind · _) (rangeOf_of_not_passes (hbelow 7 (by decide)) hfails)
  refine (congrArg (Except.bind · _) (rangeOf_of_passes (hbelow 7 (Nat.lt_of_succ_lt hn)) (hbelow 8 hn))).trans ?_
  change (groupOf (b 13)).bind _ = _
  obtain rfl | hne := eq_or_ne n 12
  · exact congrArg (Except.bind · _) (groupOf_of_ge (Nat.lt_of_not_le hfails))
  · exact absurd (fieldPasses_of_gt hn hne) hfails

/-- The template as the fields of `b` give it. -/
noncomputable def sentTemplate (b : Nat → Byte) (k : LaneId) : Template :=
  storedTemplate b k (if b 2 = 0 then .scale else if b 2 = 1 then .fixed else if b 2 = 2 then .chord else .pinned, (b 3).toInt)
    (b 4).toInt ((b 7).toNat, (b 8).toNat) (if b 13 = 0 then .foreground else .background)

theorem templateOf_ok (hpasses : ∀ n, FieldPasses b (some k) n) : templateOf b (some k) = .ok (sentTemplate b k) := by
  obtain ⟨kind, hkind⟩ := exists_ruleCode (hpasses 2)
  have hrule : kind = if b 2 = 0 then .scale else if b 2 = 1 then .fixed else if b 2 = 2 then .chord else .pinned := by
    rw [hkind]
    induction kind with
    | scale | fixed | chord | pinned => rfl
  rw [sentTemplate, ← hrule, templateOf_eq (hpasses 0), ruleOf_of_passes hkind (hpasses 3),
    rangeOf_of_passes (hpasses 7) (hpasses 8), groupOf_of_le (hpasses 12), show fallbackOf (b 4) = _ from if_pos (hpasses 4)]
  rfl

theorem templateOf_eq_error_iff (b : Nat → Byte) (lane : Option LaneId) (n : Nat) :
    templateOf b lane = .error n ↔ ¬FieldPasses b lane n ∧ ∀ j < n, FieldPasses b lane j := by
  refine ⟨fun herror => ?_, fun h => templateOf_error h.1 h.2⟩
  by_cases hall : ∀ m, FieldPasses b lane m
  · obtain ⟨k, rfl⟩ := Option.ne_none_iff_exists'.1 (hall 1)
    exact (not_error_eq_ok (herror.symm.trans (templateOf_ok hall))).elim
  · classical
    have hsome := not_forall.1 hall
    have hbelow (j : Nat) (hj : j < Nat.find hsome) : FieldPasses b lane j := not_not.1 (Nat.find_min hsome hj)
    rw [Except.error.inj (herror.symm.trans (templateOf_error (Nat.find_spec hsome) hbelow))]
    exact ⟨Nat.find_spec hsome, hbelow⟩

/-- Settles O15: the least field that fails is the error; where none fails the template is stored. -/
theorem templateExaminedInFieldOrder : Obligations.TemplateExaminedInFieldOrder := fun b lane =>
  ⟨templateOf_eq_error_iff b lane, fun k hlane hpasses => by
    subst hlane
    exact (templateOf_ok hpasses).trans
      (congrArg (fun level => Except.ok { sentTemplate b k with level := min 4096 level }) (unsigned16_eq_toNat ..))⟩

end Sys2Proof.Machine
end

section
/-! PROOF. The output slots (R155, R156, R160, R162) and the frame boundary (R96, R131, R158, R167). -/

namespace Sys2Proof.Machine

/-! ### The output slots -/

theorem toList_eq_map {α : Type} {n : Nat} (v : Vector α n) : v.toList = (List.finRange n).map v.get :=
  (congrArg Vector.toList Vector.ofFn_getElem.symm).trans (Vector.toList_ofFn.trans List.ofFn_eq_map)

theorem laneTerms_eq (cs : Vector Channel 16) (k : LaneId) (w : Channel → Nat) : laneTerms cs k w =
    ((List.finRange 16).filter fun i : Slot => cs[i].lane = k ∧ 0 < channelGain cs[i]).map fun i =>
      (cs[i].y.toInt, channelGain cs[i], w cs[i]) := by
  rw [laneTerms, toList_eq_map, List.filter_map]
  exact List.map_map

section
variable (cs : Vector Channel 16) (ms : Vector Mixer 4) (x : LaneId → Sample) (k : LaneId)

/-- The first of lane k's two output slots (R155). -/
theorem mixOut_left (h : 2 * k.val < 8) : (mixOut cs ms x).get ⟨2 * k.val, h⟩ = slotOfSample (leftOut cs ms k (x k)) := by
  obtain rfl | rfl | rfl | rfl := lane_cases k
  all_goals rfl

/-- The second of lane k's two output slots (R155). -/
theorem mixOut_right (h : 2 * k.val + 1 < 8) :
    (mixOut cs ms x).get ⟨2 * k.val + 1, h⟩ = slotOfSample (rightOut cs ms k (x k)) := by
  obtain rfl | rfl | rfl | rfl := lane_cases k
  all_goals rfl

theorem mixOut_carries : SlotsCarryMixes cs ms x (mixOut cs ms x) := fun k =>
  have slot (w : Channel → Nat) := congrArg
    (fun terms => slotOfSample (mixSide (rampValue ms[k].bypass) (rampValue ms[k].dry) (x k).toInt terms)) (laneTerms_eq cs k w)
  ⟨(mixOut_left cs ms x k _).trans (slot _), (mixOut_right cs ms x k _).trans (slot _)⟩

end

theorem State.samplePeriod_carries {s : State} (h : s.clock.state = .present) : SlotsCarryMixes s.samplePeriod.channels
    s.samplePeriod.mixers (fun k => s.audio.delay[k].headD 0) s.samplePeriod.audio.out := by
  rw [show s.samplePeriod.audio.out = _ from if_pos h]
  exact mixOut_carries _ _ _

/-- What a channel that is heard has made of the period's delayed input. -/
theorem advanceChannel_heard {c d : Channel} (hlegal : ChannelLegal c) {x : Sample} (hd : d = advanceChannel .present x c)
    (hgain : 0 < channelGain d) : d.y = Config.shifterOutput c.phase (channelRatio d) x := by
  subst hd
  cases hstate : c.state with
  | silent =>
    rw [advanceChannel_silent hstate, (hlegal.2.2.2.2.1 hstate).2.1] at hgain
    exact absurd hgain (Nat.lt_irrefl 0)
  | playing => rw [advanceChannel_playing hstate, if_pos rfl]; rfl
  | cutting =>
    rw [advanceChannel_cutting hstate] at hgain ⊢
    obtain hlast | hmore := eq_or_ne (makeSample x c).position 256
    · have hzero : channelGain (makeSample x c) = 0 := by
        rw [channelGain, hlast]
        exact (rampAt_end _ _).trans (hlegal.2.2.2.2.2 hstate).1
      rw [show endFade _ = _ from if_pos hlast] at hgain
      exact absurd hgain (Nat.not_lt_of_le hzero.le)
    · rw [show endFade _ = _ from if_neg hmore]; rfl

theorem advanceChannel_lane (clock : ClockState) (x : Sample) (c : Channel) : (advanceChannel clock x c).lane = c.lane := by
  cases hstate : c.state with
  | silent => rw [advanceChannel_silent hstate]
  | playing => rw [advanceChannel_playing hstate, apply_ite Channel.lane]; exact ite_self _
  | cutting => rw [advanceChannel_cutting hstate, endFade, apply_ite Channel.lane]; exact ite_self _

/-- Settles O45: the period that an idle step lets go by, with each heard channel's output as its shifter gives it. -/
theorem outputSlotsCarryLaneMixes : Obligations.OutputSlotsCarryLaneMixes := by
  intro s t hpending hreset hstate hperiod hdelay hlegal hstep k x heard term
  have ht : s.runEdges 1 = t := by
    have hleft : edgesLeft s.clock ≠ 0 := edgesLeft_present hstate ▸ Nat.sub_ne_zero_of_lt hperiod
    exact Host.Outcome.next.inj (((step_idle hpending).trans (congrArg _ (idleEdge_of_left hreset hleft))).symm.trans hstep)
  have hx : s.audio.delay[k].headD 0 = x := by
    dsimp only [x]
    cases s.audio.delay[k] <;> rfl
  have hchannel (i : Slot) :
      t.channels[i] = advanceChannel .present (delayedInput s.audio s.channels[i].lane) s.channels[i] := by
    rw [← ht, ← hstate]
    exact getElem_samplePeriod_channels s i
  have hheard (w : Slot → Nat) : (heard.map fun i => (t.channels[i].y.toInt, channelGain t.channels[i], w i)) =
      heard.map fun i => term (w i) i := by
    refine List.map_congr_left fun i hi => ?_
    obtain ⟨hlane, hgain⟩ := of_decide_eq_true (List.mem_filter.1 hi).2
    have hsource : s.channels[i].lane = k := (advanceChannel_lane ..).symm.trans ((congrArg Channel.lane (hchannel i)).symm.trans hlane)
    have hx : delayedInput s.audio s.channels[i].lane = x := hsource.symm ▸ hx
    exact congrArg (fun y : Sample => (y.toInt, channelGain t.channels[i], w i))
      (hx ▸ advanceChannel_heard (hlegal i) (hchannel i) hgain)
  have side (w : Slot → Nat) := congrArg₂ (fun (x : Sample) l => slotOfSample
    (mixSide (rampValue t.mixers[k].bypass) (rampValue t.mixers[k].dry) x.toInt l)) hx (hheard w)
  subst ht
  have hslots := State.samplePeriod_carries hstate k
  exact ⟨hslots.1.trans (side _), hslots.2.trans (side _), getElem_samplePeriod_delay s k⟩

end Sys2Proof.Machine
end

section
/-! PROOF. The frame boundary (R96, R131, R158, R167). -/

namespace Sys2Proof.Machine

/-! ### The application and the countdown -/

/-- `t` is `s` but for what a take may change (R119). -/
def TakeKeeps (s t : State) : Prop := t = { s with
  lanes := t.lanes, voices := t.voices, ageList := t.ageList, releaseList := t.releaseList, keyMap := t.keyMap
  currentScene := t.currentScene, channels := t.channels, mixers := t.mixers, notices := t.notices }

theorem TakeFrame.keeps {s t : State} (h : TakeFrame s t) : TakeKeeps s t := by
  obtain ⟨_, _, _, _, _, _, _, _, _, rfl⟩ := h
  exact Eq.refl _

/-- The state with the parts that a countdown writes. -/
noncomputable def State.cueCounted (s : State) (queue : List Entry) (cue : ArmedCue) (notices : Vector Notice 17) : State :=
  { s with queue := queue, cue := cue, notices := notices }

/-- The queue, the cue and the notices after a boundary's countdown, where no head waits in the FIFO (R131). -/
theorem State.countdown_eq {s : State} (hhead : s.link.headWaits = false) (hqueue : s.queue = []) {cue : ArmedCue}
    (hcue : s.cue = cue) {taken : Bool} (htaken : s.clock.countdownTaken = taken) :
    let counts := taken = false ∧ cue.armed = true ∧ 0 < cue.timeout
    let expires := counts ∧ cue.remaining ≤ 1
    (if s.clock.countdownTaken then s else s.countdown) = s.cueCounted
      (if expires ∧ cue.action = .take then [.take cue.scene] else [])
      (if expires then { cue with armed := false, remaining := 0 }
        else if counts then { cue with remaining := cue.remaining - 1 } else cue)
      (if expires then s.notices.set 12 (raiseNotice s.notices[(12 : Fin 17)] cue.scene.val) else s.notices) := by
  intro counts expires
  subst hcue htaken
  have written {q q' : List Entry} {c c' : ArmedCue} {ns ns' : Vector Notice 17} (hq : q' = q) (hc : c' = c) (hns : ns' = ns) :
      s.cueCounted q c ns = s.cueCounted q' c' ns' := by
    rw [hq, hc, hns]
  by_cases hcounts : counts
  · refine (if_neg (ne_true_of_eq_false hcounts.1)).trans ((if_pos hcounts.2).trans ?_)
    by_cases hlast : s.cue.remaining ≤ 1
    · have hexpires : expires := ⟨hcounts, hlast⟩
      have hlink : { s.link with headWaits := false } = s.link := hhead ▸ rfl
      refine (if_pos hlast).trans ((State.expireCue_eq s).trans ?_)
      rw [hlink, hqueue]
      exact written (if_congr (and_iff_right hexpires) rfl rfl) (if_pos hexpires) (if_pos hexpires)
    · have hmore : ¬expires := fun h => hlast h.2
      exact (if_neg hlast).trans (written ((if_neg fun h => hmore h.1).trans hqueue.symm) ((if_neg hmore).trans (if_pos hcounts)) (if_neg hmore))
  · have hmore : ¬expires := fun h => hcounts h.1
    have hstill : (if s.clock.countdownTaken then s else s.countdown) = s := by
      split
      · rfl
      · exact if_neg fun h => hcounts ⟨Bool.eq_false_of_not_eq_true ‹_›, h⟩
    exact hstill.trans (written ((if_neg fun h => hmore h.1).trans hqueue.symm) ((if_neg hmore).trans (if_neg hcounts)) (if_neg hmore))

/-- What a boundary's application leaves (R96): the edges before it, the queue empty, no head waiting. -/
theorem State.boundary_frame {s e w : State} (hstate : s.clock.state = .present) (hperiod : s.clock.period ≤ 255)
    (he : s.runEdges (255 - s.clock.period) = e) (hw : e.applyQueue = w) : w = { s with
      lanes := w.lanes, voices := w.voices, ageList := w.ageList, releaseList := w.releaseList, keyMap := w.keyMap
      currentScene := w.currentScene, channels := w.channels, mixers := w.mixers, notices := w.notices
      queue := [], link := { s.link with headWaits := false }, audio := e.audio
      sampleNo := s.sampleNo + (255 - s.clock.period)
      clock := { s.clock with period := 255, gap := if s.clock.period = 255 then s.clock.gap else 0 } } := by
  have hedges := s.runEdges_eq (255 - s.clock.period)
  rw [countEdges_to_boundary hstate hperiod, he] at hedges
  exact (hw ▸ TakeFrame.keeps e.applyQueue_frame).trans (congrArg (fun e : State => { e with
      lanes := w.lanes, voices := w.voices, ageList := w.ageList, releaseList := w.releaseList, keyMap := w.keyMap
      currentScene := w.currentScene, channels := w.channels, mixers := w.mixers, notices := w.notices
      queue := [], link := { e.link with headWaits := false } }) hedges)

/-- The boundary's ramps, analyses and frame count, and the first sample of the next frame (R158, R167). -/
theorem exec_frameBoundary {s w u : State} (hreset : s.inReset = false) (hstate : s.clock.state = .present)
    (hw : (s.runEdges (255 - s.clock.period)).applyQueue = w)
    (hu : (if w.clock.countdownTaken then w else w.countdown) = u) : exec .frameBoundary s = .next (State.samplePeriod { u with
      channels := u.channels.map startRamp, lanes := u.lanes.map (setDue true), clock := boundaryClock u.clock }) := by
  subst hw hu
  rw [← edgesLeft_present hstate]
  exact congrArg _ (if_pos ⟨ne_true_of_eq_false hreset, hstate⟩)

/-- A notice that is raised, or not. -/
theorem ite_set_get {p : Prop} [Decidable p] (ns : Vector Notice 17) (k : Fin 17) (x : Notice) :
    (∀ j : Fin 17, j ≠ k → (if p then ns.set k x k.isLt else ns).get j = ns.get j) ∧
    (if p then ns.set k x k.isLt else ns).get k = if p then x else ns.get k := by
  split
  · exact ⟨fun j hne => Vector.getElem_set_ne _ _ fun h => hne (Fin.ext h.symm), Vector.getElem_set_self _⟩
  · exact ⟨fun _ _ => rfl, rfl⟩

/-- Settles O38: the application's and the countdown's frames, then a sample of every part. -/
theorem frameBoundaryActs : Obligations.FrameBoundaryActs := by
  intro s hreset hstate hperiod edges before w counts expires
  have he := s.runEdges_eq edges
  have hw : before.applyQueue = w := congrArg₂ (fun (q : List Entry) (l : CueLink) => List.foldl State.applyEntry { before with
    queue := [], link := { l with headWaits := false } } q) (congrArg State.queue he :) (congrArg State.link he :)
  have hframe := State.boundary_frame hstate hperiod rfl hw
  have hcounted := State.countdown_eq (s := w) (congrArg (fun u : State => u.link.headWaits) hframe :)
    (congrArg State.queue hframe :) (cue := s.cue) (congrArg State.cue hframe :) (taken := s.clock.countdownTaken)
    (congrArg (fun u : State => u.clock.countdownTaken) hframe :)
  have hnotices := ite_set_get (p := expires) w.notices 12 (raiseNotice (w.notices.get 12) s.cue.scene.val)
  have hpass := s.runEdges_pass edges
  rw [hstate] at hpass
  have hnow : w.clock.state = .present := (congrArg (fun u : State => u.clock.state) hframe :).trans hstate
  exact ⟨hpass, _, exec_frameBoundary hreset hstate hw hcounted, rfl, rfl, rfl, rfl, rfl, fun k => Vector.getElem_map .., rfl, rfl,
    (congrArg State.link hframe :), (congrArg (fun u : State => boundaryClock u.clock) hframe :), hnotices.1, hnotices.2,
    ⟨w.channels.map startRamp, fun i => Vector.getElem_map .., hnow ▸ samplePeriod_passes _⟩, State.samplePeriod_carries hnow,
    (congrArg State.audio hframe :), (congrArg State.sampleNo hframe :), (congrArg State.scenes hframe :),
    (congrArg State.setlist hframe :), (congrArg State.chord hframe :), (congrArg State.pedals hframe :),
    (congrArg State.port hframe :), (congrArg State.inReset hframe :), (congrArg State.pending hframe :),
    (congrArg (fun u : State => u.sampleNo + 1) hframe :)⟩

end Sys2Proof.Machine
end

section
/-! PROOF. A LANE_SETTINGS entry applied (R2, R57, R58, R100, R161). -/

namespace Sys2Proof.Machine

/-! ### Kills -/

theorem cutChannel_cutChannel (c : Channel) : cutChannel (cutChannel c) = cutChannel c := by
  have hvalues : (channelGain (cutChannel c), channelRatio (cutChannel c), channelPan (cutChannel c)) =
      (channelGain c, channelRatio c, channelPan c) := Prod.ext (rampAt_start _ _) (Prod.ext (rampAt_start _ _) (rampAt_start _ _))
  exact congrArg (fun x : Nat × Nat × Nat => { cutChannel c with
    startGain := x.1, startRatio := x.2.1, endRatio := x.2.1, startPan := x.2.2, endPan := x.2.2 }) hvalues

theorem State.foldl_kill_channels (l : List Slot) (s : State) (j : Slot) :
    (l.foldl State.kill s).channels[j] = if j ∈ l then cutChannel s.channels[j] else s.channels[j] :=
  foldl_at (f := State.kill) (.inr fun _ => cutChannel_cutChannel) (g := fun s j => s.channels[j]) (fun s i j => (s.freeVoice i).cut_get i j) s j

theorem State.foldl_kill_killed {l : List Slot} {s w : State} (hpool : PoolLaw s) {i : Slot} (hmem : i ∈ l)
    (hw : l.foldl State.kill s = w) : w.voices[i].state = .free ∧ w.channels[i].state = .cutting ∧ i ∉ w.ageList ∧
      i ∉ w.releaseList := by
  have hlaw : PoolLaw w := hw ▸ (Keeps.foldl (fun _ i _ ht => ht.kill i) (Keeps.refl s)).poolLaw hpool
  have hfree : w.voices[i].state = .free :=
    hw ▸ congrArg Voice.state ((State.foldl_kill_get l s i).trans (if_pos hmem))
  exact ⟨hfree, hw ▸ congrArg Channel.state ((State.foldl_kill_channels l s i).trans (if_pos hmem)), fun hi => (hlaw.2.1 i).1 hi hfree,
    fun hi => VoiceState.noConfusion (hfree.symm.trans ((hlaw.2.2.2 i).1 hi))⟩

/-! ### Freeze -/

/-- A voice of a lane whose freeze changes from `before` to `after` (R57, R58). -/
noncomputable def refrozen (before after : Bool) (v : Voice) : Voice :=
  { v with frozen :=
      if before = false ∧ after = true ∧ (v.state = .active ∨ v.state = .holding ∨ v.state = .releasing) ∧
          v.fresh = false ∧ v.frozen = none then some v.nt
      else if before = true ∧ after = false then none else v.frozen }

theorem captureFrozen_eq (v : Voice) : captureFrozen v = refrozen false true v := by
  have hset {z : Option Int} (hz : (refrozen false true v).frozen = z) : { v with frozen := z } = refrozen false true v := hz ▸ rfl
  unfold captureFrozen
  split
  case isTrue h => exact hset (if_pos ⟨rfl, rfl, h.1, Bool.eq_false_of_not_eq_true h.2.1, h.2.2⟩)
  case isFalse h =>
    exact hset ((if_neg fun hc => h ⟨hc.2.2.1, ne_true_of_eq_false hc.2.2.2.1, hc.2.2.2.2⟩).trans (if_neg fun hc => Bool.noConfusion hc.1))

theorem State.freezeChange_get (s : State) (k : LaneId) (before after : Bool) (i : Slot) :
    (s.freezeChange k before after).voices[i] =
      if s.voices[i].template.lane = k then refrozen before after s.voices[i] else s.voices[i] := by
  have hmap (g : Voice → Voice) : (s.mapLaneVoices k g).voices[i] =
      if s.voices[i].template.lane = k then g s.voices[i] else s.voices[i] := Vector.getElem_map ..
  match before, after with
  | false, false | true, true => exact (ite_self s.voices[i]).symm
  | false, true => exact (hmap captureFrozen).trans (captureFrozen_eq _ ▸ rfl)
  | true, false => exact hmap _

/-! ### The whole change -/

section
variable {s w : State} {k : LaneId} {on : Bool} (hw : s.offKills k on = w)
include hw

/-- A voice of another lane is not killed. -/
theorem offKills_other {i : Slot} (hlane : s.voices[i].template.lane ≠ k) :
    w.voices[i] = s.voices[i] ∧ w.channels[i] = s.channels[i] := by
  have hmem : i ∉ s.agedWhere fun v => v.template.lane = k := fun h => hlane (of_decide_eq_true (List.mem_filter.1 h).2)
  subst hw
  exact iteInduction (motive := fun w : State => w.voices[i] = s.voices[i] ∧ w.channels[i] = s.channels[i])
    (fun _ => ⟨(State.foldl_kill_get _ s i).trans (if_neg hmem), (State.foldl_kill_channels _ s i).trans (if_neg hmem)⟩) fun _ => ⟨rfl, rfl⟩

/-- A present voice of an ON lane that goes OFF is killed (R2). -/
theorem offKills_killed (hpool : PoolLaw s) {i : Slot} (hlane : s.voices[i].template.lane = k) (hpresent : s.voices[i].state ≠ .free)
    (hon : s.lanes[k].settings.on = true) (hoff : on = false) :
    w.voices[i].state = .free ∧ w.channels[i].state = .cutting ∧ i ∉ w.ageList ∧ i ∉ w.releaseList := by
  have hmem : i ∈ s.agedWhere fun v => v.template.lane = k :=
    List.mem_filter.2 ⟨(hpool.2.1 i).2 hpresent, decide_eq_true hlane⟩
  have hkills : s.killLane k = w := by
    rw [← hw, State.offKills, hon, hoff]
    rfl
  exact State.foldl_kill_killed hpool hmem hkills

/-- What a LANE_SETTINGS change touches (R100). -/
theorem State.applySettings_frame {t : State} {st : LaneSettings} (hon : st.on = on) (ht : s.applySettings k st = t) : t = { s with
      lanes := s.lanes.set k (settledLane s.lanes[k] st), mixers := s.mixers.set k (retarget s.mixers[k] st)
      voices := t.voices, ageList := w.ageList, releaseList := w.releaseList, channels := w.channels, notices := w.notices } := by
  subst hon
  have hkills := hw ▸ s.offKills_frame k st.on
  have heq := ht ▸ hw ▸ State.applySettings_eq s k st
  refine (heq.trans (State.freezeChange_frame ..)).trans ?_
  rw [← heq]
  exact congrArg (fun u : State => { u with
    lanes := u.lanes.set k (settledLane s.lanes[k] st), mixers := u.mixers.set k (retarget u.mixers[k] st)
    voices := t.voices, ageList := w.ageList, releaseList := w.releaseList, channels := w.channels, notices := w.notices }) hkills

theorem State.applySettings_voice {t : State} {st : LaneSettings} (hon : st.on = on) (ht : s.applySettings k st = t) (i : Slot) :
    t.voices[i] = if w.voices[i].template.lane = k then refrozen s.lanes[k].settings.freeze st.freeze w.voices[i]
      else w.voices[i] := by
  subst hon hw ht
  exact (congrArg (fun u : State => u.voices[i]) (State.applySettings_eq s k st)).trans (State.freezeChange_get _ k _ _ i)

end

/-- Settles O40: the kills of a lane that goes OFF, then the lane, the mixer and the freeze. -/
theorem laneSettingsApplied : Obligations.LaneSettingsApplied := by
  intro s k st hpool l t
  have hframe := State.applySettings_frame (s := s) (k := k) rfl rfl (t := t) rfl
  have hvoice := State.applySettings_voice (s := s) (k := k) rfl rfl (t := t) rfl
  have hchannel (i : Slot) : t.channels[i] = (s.offKills k st.on).channels[i] := (congrArg (fun u : State => u.channels[i]) hframe :)
  refine ⟨(congrArg State.lanes hframe :).trans (congrArg (fun l : Lane => s.lanes.set k l) (settledLane_eq l st)), fun i hlane => ?_,
    fun i hlane hpresent => ⟨fun hon hoff => ?_, fun hstays => ?_⟩,
    (congrArg State.mixers hframe :).trans (congrArg (fun b => s.mixers.set k { dry := _, bypass := setRampTarget s.mixers[k].bypass b })
      (if_congr (Bool.and_eq_true ..).to_iff.symm rfl rfl)), (congrArg State.keyMap hframe :), (congrArg State.queue hframe :), (congrArg State.cue hframe :),
    (congrArg State.link hframe :), (congrArg State.chord hframe :), (congrArg State.scenes hframe :), (congrArg State.setlist hframe :),
    (congrArg State.clock hframe :), (congrArg State.port hframe :), (congrArg State.pedals hframe :)⟩
  · obtain ⟨hv, hc⟩ := offKills_other rfl hlane
    exact ⟨(hvoice i).trans ((if_neg (hv.symm ▸ hlane)).trans hv), (hchannel i).trans hc⟩
  · obtain ⟨hv, hc, hages, hreleases⟩ := offKills_killed rfl hpool hlane hpresent hon hoff
    refine ⟨?_, (congrArg Channel.state (hchannel i)).trans hc, fun hi => hages ((congrArg State.ageList hframe :) ▸ hi),
      fun hi => hreleases ((congrArg State.releaseList hframe :) ▸ hi)⟩
    rw [hvoice, ← hv]
    split <;> rfl
  · have hw : s.offKills k st.on = s :=
      if_neg fun h => hstays (and_congr_right' (Bool.not_eq_true' _).to_iff |>.1 (Bool.and_eq_true_iff.1 h))
    have hsame : (s.offKills k st.on).voices[i] = s.voices[i] := congrArg (fun u : State => u.voices[i]) hw
    exact ⟨(hvoice i).trans ((congrArg (fun v : Voice => if v.template.lane = k then refrozen _ _ v else v) hsame).trans (if_pos hlane)),
      (hchannel i).trans (congrArg (fun u : State => u.channels[i]) hw)⟩

end Sys2Proof.Machine
end

section
/-! PROOF. The voice computation (R28, R34 to R43). -/

namespace Sys2Proof.Machine

/-! ### The fold (R39) -/

/-- The octaves between a pitch and a limit, rounded up. -/
theorem octaves_up (x : Int) : x ≤ 1200 * ((x + 1199) / 1200) ∧ 1200 * ((x + 1199) / 1200) < x + 1200 :=
  ⟨le_of_add_le_add_right (a := 1199) (Int.le_of_lt_add_one
    ((Int.lt_mul_ediv_self_add (x := x + 1199) (k := 1200) (by decide)).trans_eq (Int.add_assoc (1200 * ((x + 1199) / 1200)) 1199 1).symm)),
    lt_of_le_of_lt (Int.mul_ediv_self_le (by decide)) (Int.add_lt_add_left (by decide) x)⟩

section
variable {t low high : Int} {lo hi : Nat} (hlow : 100 * (lo : Int) = low) (hhigh : 100 * (hi : Int) = high)
include hlow hhigh

/-- A fold from above lands in the octave below the high limit. -/
theorem foldOctaves_above (hwide : low + 1200 ≤ high) (h : high < t) :
    t + 1200 * foldOctaves t lo hi ≤ high ∧ high - 1200 < t + 1200 * foldOctaves t lo hi := by
  obtain ⟨hreach, hover⟩ := octaves_up (t - high)
  rw [sub_add t high 1200] at hover
  have hlands := lt_sub_comm.1 hover
  have hfold : foldOctaves t lo hi = -((t - high + 1199) / 1200) := by
    rw [foldOctaves, hlow, hhigh, if_pos h, if_neg (not_lt_of_ge ((le_sub_iff_add_le.2 hwide).trans hlands.le)), Int.zero_sub]
  rw [hfold, Int.mul_neg, ← Int.sub_eq_add_neg]
  exact ⟨sub_le_comm.1 hreach, hlands⟩

/-- A fold from below lands in the octave above the low limit. -/
theorem foldOctaves_below (hnot : ¬high < t) (h : t < low) :
    low ≤ t + 1200 * foldOctaves t lo hi ∧ t + 1200 * foldOctaves t lo hi < low + 1200 := by
  obtain ⟨hreach, hover⟩ := octaves_up (low - t)
  have hfold : foldOctaves t lo hi = (low - t + 1199) / 1200 := by
    rw [foldOctaves, hlow, hhigh, if_neg hnot]
    simp only [Int.mul_zero, Int.sub_zero, if_pos h]
  rw [hfold]
  exact ⟨sub_le_iff_le_add'.1 hreach, lt_sub_iff_add_lt'.1 (sub_add_eq_add_sub low t 1200 ▸ hover)⟩

theorem foldOctaves_within (hnot : ¬high < t) (h : ¬t < low) : foldOctaves t lo hi = 0 := by
  rw [foldOctaves, hlow, hhigh, if_neg hnot]
  simp only [Int.mul_zero, Int.sub_zero, if_neg h]

/-- A range is wider than an octave, so that every fold ends in it. -/
theorem foldOctaves_spec (hwide : low + 1200 ≤ high) {u : Int} (hu : u = t + 1200 * foldOctaves t lo hi) :
    low ≤ u ∧ u ≤ high ∧ (low ≤ t → t ≤ high → foldOctaves t lo hi = 0) ∧ (high < t → high - 1200 < u) ∧
      (t < low → u < low + 1200) := by
  by_cases habove : high < t
  · obtain ⟨hle, hlt⟩ := hu ▸ foldOctaves_above hlow hhigh hwide habove
    exact ⟨(le_sub_iff_add_le.2 hwide).trans hlt.le, hle, fun _ h => absurd habove (not_lt_of_ge h), fun _ => hlt,
      fun h => absurd (h.trans_le ((le_add_of_nonneg_right (by decide)).trans hwide)) (not_lt_of_gt habove)⟩
  · by_cases hbelow : t < low
    · obtain ⟨hle, hlt⟩ := hu ▸ foldOctaves_below hlow hhigh habove hbelow
      exact ⟨hle, hlt.le.trans hwide, fun h => absurd hbelow (not_lt_of_ge h), fun h => absurd h habove, fun _ => hlt⟩
    · have hzero := foldOctaves_within hlow hhigh habove hbelow
      rw [hzero, Int.mul_zero, Int.add_zero] at hu
      exact ⟨hu ▸ le_of_not_gt hbelow, hu ▸ le_of_not_gt habove, fun _ _ => hzero, fun h => absurd h habove, fun h => absurd h hbelow⟩

end

/-! ### Glide and level (R40, R43) -/

theorem glideStep_eq (fresh : Bool) (glide : Nat) (t o : Int) : glideStep fresh glide t o =
    if fresh = true ∨ glide = 0 ∨ |t - o| ≤ 5 * (glide : Int) then t else if o < t then o + 5 * glide else o - 5 * glide := by
  have hglide : 5 * (glide : Int) = 0 ↔ glide = 0 := by
    rw [Int.mul_eq_zero, or_iff_right (by decide), Int.natCast_eq_zero]
  exact if_congr (or_congr_right (or_congr_left hglide)) rfl rfl

theorem levelStep_cast (level target attack release : Nat) : (levelStep level target attack release : Int) =
    if level < target then min (target : Int) (level + 16 * attack) else max (target : Int) (level - 16 * release) := by
  have hfall : max (target : Int) (level - 16 * release) = (max target (level - 16 * release) : Nat) := by
    rw [Nat.cast_max, ← Int.toNat_sub, Int.toNat_eq_max, max_comm _ (0 : Int), ← max_assoc, max_eq_left (Int.natCast_nonneg _),
      Nat.cast_mul]
    rfl
  unfold levelStep
  split
  · exact Nat.cast_min ..
  · rw [hfall]
    split
    · rfl
    case isFalse hrises hfalls =>
      obtain rfl := Nat.le_antisymm (Nat.le_of_not_lt hfalls) (Nat.le_of_not_lt hrises)
      exact congrArg _ (max_eq_left (Nat.sub_le _ _)).symm

theorem clampInterval_ne_iff (x : Int) : clampInterval x ≠ x ↔ x < -2400 ∨ 2400 < x := by
  have hsame : clampInterval x = x ↔ -2400 ≤ x ∧ x ≤ 2400 :=
    ⟨fun h => h ▸ clampInterval_bounds x, fun h => (congrArg (max (-2400)) (min_eq_right h.2)).trans (max_eq_right h.1)⟩
  rw [Ne, hsame, not_and_or, not_le, not_le]

/-! ### The target note (R34 to R36) -/

section
variable {v : Voice} (c : VoiceContext)

theorem targetNote_frozen {z : Int} (h : v.frozen = some z) :
    targetNote v c = (z, v.template.rule = .chord && v.fallbackUsed) := by
  rw [targetNote, h]

/-- The rule alone decides while no note is frozen. -/
theorem targetNote_rule (h : v.frozen = none) {kind : RuleKind} (hkind : v.template.rule = kind) :
    targetNote v c = targetNote { v with frozen := none, template := { v.template with rule := kind } } c := by
  rw [← h, ← hkind]

end

/-- Settles O36: each step by its own lemma. -/
theorem voiceComputationSteps : Obligations.VoiceComputationSteps := by
  intro v c hlegal tp w note f unfolded
  have hnote {x : Int × Bool} (h : targetNote v c = x) : note = x.1 ∧ w.fallbackUsed = x.2 :=
    ⟨congrArg Prod.fst h, congrArg Prod.snd h⟩
  have hwide : 100 * (tp.lo : Int) + 1200 ≤ 100 * (tp.hi : Int) :=
    (Int.mul_add 100 (tp.lo : Int) 12).ge.trans (Int.mul_le_mul_of_nonneg_left (Int.ofNat_le.2 hlegal.2.2.2.2.2.1.2.1) (by decide))
  exact ⟨fun z h => hnote (targetNote_frozen c h), fun h => ⟨fun hk => hnote (targetNote_rule c h hk), fun hk => hnote (targetNote_rule c h hk),
    fun hk => hnote (targetNote_rule c h hk), fun hk hset => hnote ((targetNote_rule c h hk).trans (if_pos hset)),
    fun hk hset => hnote ((targetNote_rule c h hk).trans (if_neg hset))⟩,
    ⟨_, rfl, rfl, foldOctaves_spec rfl rfl hwide rfl⟩, glideStep_eq .., rfl, rfl, (decide_eq_true_iff).trans (clampInterval_ne_iff _), rfl,
    levelStep_cast .., rfl, rfl, rfl, rfl, rfl, rfl⟩

end Sys2Proof.Machine
end

section
/-! PROOF. The receiver's line and its bytes (R137 to R139, R141). -/

namespace Sys2Proof.Machine

theorem runLine_waitHigh_eq (samples : List Bool) : runLine .waitHigh samples = (.waitHigh, []) := by
  induction samples with
  | nil => rfl
  | cons high rest ih => exact congrArg (fun r : Line × List LineEvent => (r.1, [] ++ r.2)) ih

section
variable {s : State} (hreset : s.inReset = false)
include hreset

/-- Samples that bring no byte leave the line alone changed. -/
theorem State.lineRow_quiet {samples : List Bool} {line : Line} (h : runLine s.link.line samples = (line, []))
    (act : State → Byte → Option State) : s.lineRow samples act = s.setLine line := by
  rw [State.lineRow, if_neg (ne_true_of_eq_false hreset), h]

theorem State.lineRow_still {samples : List Bool} (h : runLine s.link.line samples = (s.link.line, []))
    (act : State → Byte → Option State) : s.lineRow samples act = s := State.lineRow_quiet hreset h act

theorem State.lineRow_fault {samples : List Bool} {b : Byte} (h : Delivers s.link.line samples b false)
    (act : State → Byte → Option State) : s.lineRow samples act = s.framingFault := by
  rw [State.lineRow, if_neg (ne_true_of_eq_false hreset), runLine_of_delivers h]
  rfl

/-- What every cue-link row with samples makes of the line (R137, R138). -/
theorem lineRow_line {row : List Bool → Instr} {act : State → Byte → Option State}
    (hrow : ∀ samples, exec (row samples) s = .next (s.lineRow samples act)) :
    (s.link.line = .waitHigh → ∀ samples, exec (row samples) s = .next s) ∧
    (s.link.line = .idle → ∀ noise : Nat, exec (row (List.replicate noise true)) s = .next s ∧
      ∀ bits : List Bool, bits.length ≤ 8 →
        exec (row (List.replicate noise true ++ false :: bits)) s = .next (s.setLine (.receiving bits))) ∧
    (∀ got bits : List Bool, s.link.line = .receiving got → got.length + bits.length ≤ 8 →
      exec (row bits) s = .next (s.setLine (.receiving (got ++ bits)))) ∧
    ∀ (b : Byte) (samples : List Bool), Delivers s.link.line samples b false → exec (row samples) s = .next s.framingFault := by
  refine ⟨fun h samples => (hrow _).trans (congrArg _ (State.lineRow_still hreset (h.symm ▸ runLine_waitHigh_eq samples) act)),
    fun h noise => ⟨(hrow _).trans (congrArg _ (State.lineRow_still hreset (h.symm ▸ runLine_noise noise) act)), fun bits hbits => ?_⟩,
    fun got bits h hlength => (hrow _).trans (congrArg _ (State.lineRow_quiet hreset (h.symm ▸ runLine_bits got bits hlength) act)),
    fun b samples h => (hrow _).trans (congrArg _ (State.lineRow_fault hreset h act))⟩
  refine (hrow _).trans (congrArg _ (State.lineRow_quiet hreset ?_ act))
  rw [h, runLine_append, runLine_noise, runLine_start, runLine_bits [] bits (by rwa [List.length_nil, Nat.zero_add])]
  rfl

end

section
variable {s : State} {b : Byte}

/-- A start byte is stray inside a message, a data byte outside one (R139). -/
theorem actStray_of_start (hmsb : b.msb = true) :
    actStray s b = if 0 < s.link.partialBytes.length then some ((s.setPartial [b]).linkFault .stray) else none := by
  rw [actStray, isStray, State.strayByte, hmsb, if_pos rfl]
  cases s.link.partialBytes with
  | nil => rfl
  | cons first rest => rfl

theorem actStray_of_data (hmsb : b.msb = false) :
    actStray s b = if s.link.partialBytes.length = 0 then some (s.linkFault .stray) else none := by
  rw [actStray, isStray, State.strayByte, hmsb, if_neg Bool.false_ne_true]
  cases h : s.link.partialBytes with
  | nil => exact congrArg (fun bytes => some ((s.setPartial bytes).linkFault .stray)) h.symm
  | cons first rest => rfl

theorem actPartialMessage_of_start (hmsb : b.msb = true) :
    actPartialMessage s b =
      if s.link.partialBytes.length = 0 then some (s.setPartial (s.link.partialBytes ++ [b])) else none := by
  rw [actPartialMessage, extendsPartial, hmsb, if_pos rfl]
  cases s.link.partialBytes with
  | nil => rfl
  | cons first rest => rfl

theorem actPartialMessage_of_data (hmsb : b.msb = false) :
    actPartialMessage s b = if s.link.partialBytes.length = 1 ∨ s.link.partialBytes.length = 2 then
      some (s.setPartial (s.link.partialBytes ++ [b])) else none := by
  rw [actPartialMessage, extendsPartial, hmsb, if_neg Bool.false_ne_true, ← Bool.decide_or]
  exact if_congr decide_eq_true_iff rfl rfl

theorem actCueLinkMessage_none (h : b.msb = true ∨ s.link.partialBytes.length ≠ 3) : actCueLinkMessage s b = none := by
  rw [actCueLinkMessage]
  generalize s.link.partialBytes = bytes at h
  rcases bytes with _ | ⟨_, _ | ⟨_, _ | ⟨_, _ | _⟩⟩⟩
  case cons.cons.cons.nil => exact if_pos (h.resolve_right (not_not_intro rfl))
  all_goals rfl

variable (hreset : s.inReset = false) {samples : List Bool} (hbyte : Delivers s.link.line samples b true)
include hreset hbyte

/-- STRAY with the one byte its samples bring. -/
theorem stray_of_delivers :
    s.lineRow samples actStray =
      if b.msb = true ∧ 0 < s.link.partialBytes.length then ((s.setLine .idle).setPartial [b]).linkFault .stray
      else if b.msb = false ∧ s.link.partialBytes.length = 0 then (s.setLine .idle).linkFault .stray else s := by
  rw [State.lineRow_of_delivers hreset hbyte]
  cases hmsb : b.msb with
  | true =>
    rw [actStray_of_start hmsb, apply_ite (fun next : Option State => next.getD s)]
    exact if_congr (and_iff_right rfl).symm rfl (if_neg fun h => Bool.noConfusion h.1).symm
  | false =>
    rw [actStray_of_data hmsb, apply_ite (fun next : Option State => next.getD s),
      if_neg (show ¬(false = true ∧ _) from fun h => Bool.noConfusion h.1)]
    exact if_congr (and_iff_right rfl).symm rfl rfl

theorem partialMessage_of_delivers :
    s.lineRow samples actPartialMessage =
      if (b.msb = true ∧ s.link.partialBytes.length = 0) ∨
          (b.msb = false ∧ (s.link.partialBytes.length = 1 ∨ s.link.partialBytes.length = 2)) then
        (s.setLine .idle).setPartial (s.link.partialBytes ++ [b]) else s := by
  rw [State.lineRow_of_delivers hreset hbyte]
  cases hmsb : b.msb with
  | true =>
    rw [actPartialMessage_of_start hmsb, apply_ite (fun next : Option State => next.getD s)]
    exact if_congr ⟨fun h => .inl ⟨rfl, h⟩, fun h => h.elim And.right fun h => Bool.noConfusion h.1⟩ rfl rfl
  | false =>
    rw [actPartialMessage_of_data hmsb, apply_ite (fun next : Option State => next.getD s)]
    exact if_congr ⟨fun h => .inr ⟨rfl, h⟩, fun h => h.elim (fun h => Bool.noConfusion h.1) And.right⟩ rfl rfl

theorem cueLinkMessage_of_delivers (h : b.msb = true ∨ s.link.partialBytes.length ≠ 3) :
    s.lineRow samples actCueLinkMessage = s := by
  rw [State.lineRow_of_delivers hreset hbyte, actCueLinkMessage_none (s := s.setLine .idle) h]
  rfl

end

theorem lineRow_of_mem (s : State) : ∀ row ∈ [Instr.stray, .partialMessage, .cueLinkMessage],
    ∃ act, ∀ samples, exec (row samples) s = .next (s.lineRow samples act) :=
  List.forall_mem_cons.mpr ⟨⟨actStray, fun _ => rfl⟩, List.forall_mem_cons.mpr ⟨⟨actPartialMessage, fun _ => rfl⟩,
    List.forall_mem_singleton.mpr ⟨actCueLinkMessage, fun _ => rfl⟩⟩⟩

/-- Settles O48: each row is its own act on the line, and the three rows with samples share what the samples make of the line. -/
theorem cueLinkBytes : Obligations.CueLinkBytes := by
  intro s hreset
  have hrunning : ¬(s.inReset : Prop) := ne_true_of_eq_false hreset
  refine ⟨fun h => congrArg _ (if_pos ⟨hrunning, h⟩), fun h => congrArg _ (if_neg fun hline => h hline.2),
    fun h => congrArg _ (if_neg fun hline => hline.2 h), fun h => congrArg _ (if_pos ⟨hrunning, h⟩),
    fun row hrow => (lineRow_of_mem s row hrow).elim fun _ hact => lineRow_line hreset hact,
    fun b samples h => ⟨congrArg _ (stray_of_delivers hreset h), congrArg _ (partialMessage_of_delivers hreset h),
      fun hbyte => congrArg _ (cueLinkMessage_of_delivers hreset h hbyte)⟩⟩

end Sys2Proof.Machine
end

section
/-! PROOF. The hard resets (R172, R174): what holds the part, what ends the reset, and what a reset leaves. -/

namespace Sys2Proof.Machine

/-! ### The three rows, by what holds the part -/

section
variable {s : State} {hold : Hold}

theorem exec_powerOn_of (closed : Vector Bool 4) : s.hold = hold → exec (.powerOn closed) s = .next (match hold with
    | .running => s.hardReset .powerOn closed
    | .supply false => s.hardReset .powerOn closed
    | .supply true => s.holdReset .pinAfterSupply
    | .pin => s.holdReset .pinAfterSupply
    | .pinAfterSupply => s) := by
  rintro rfl
  rfl

theorem exec_resetPinFalls_of : s.hold = hold → exec (.resetPin .falls) s = .next (match hold with
    | .running => s.holdReset .pin
    | .supply _ => s.holdReset (.supply true)
    | .pin => s
    | .pinAfterSupply => s) := by
  rintro rfl
  rfl

theorem exec_resetPinRises_of (closed : Vector Bool 4) :
    s.hold = hold → exec (.resetPin (.rises closed)) s = .next (match hold with
    | .running => s
    | .pin => s.hardReset .resetPin closed
    | .supply _ => s.holdReset (.supply false)
    | .pinAfterSupply => s.hardReset .powerOn closed) := by
  rintro rfl
  rfl

theorem exec_supplyBelowThreshold_of (h : s.hold = hold) :
    exec .supplyBelowThreshold s = .next (s.holdReset (supplyLost hold)) := h ▸ rfl

end

/-! ### The other rows while a reset lasts (assumption 26) -/

/-- The three rows that begin or end a hard reset. -/
def Instr.IsResetRow (i : Instr) : Prop := (∃ c, i = .powerOn c) ∨ (∃ e, i = .resetPin e) ∨ i = .supplyBelowThreshold

section
variable {s : State} (hreset : s.inReset = true) {q : Prop}
include hreset

theorem ite_inReset (t : State) : (.next (if s.inReset then s else t) : Host.Outcome State Fault Refusal) = .next s ∨ q :=
  .inl (congrArg _ (if_pos hreset))

theorem commandRow_inReset (c : Command) (take : State → State) :
    (.next (s.commandRow c take) : Host.Outcome State Fault Refusal) = .next s ∨ q := ite_inReset hreset _

theorem lineRow_inReset (samples : List Bool) (act : State → Byte → Option State) :
    (.next (s.lineRow samples act) : Host.Outcome State Fault Refusal) = .next s ∨ q := ite_inReset hreset _

omit hreset in
theorem next_ite_of_not {p : Prop} [Decidable p] (hp : ¬p) (t : State) :
    (.next (if p then t else s) : Host.Outcome State Fault Refusal) = .next s ∨ q := .inl (congrArg _ (if_neg hp))

theorem runs_inReset (p : Prop) [Decidable p] (t : State) :
    (.next (if ¬s.inReset ∧ p then t else s) : Host.Outcome State Fault Refusal) = .next s ∨ q :=
  next_ite_of_not (fun h => h.1 hreset) t

theorem resultDue_inReset (k : LaneId) : ¬resultDue s k = true := by
  rw [resultDue, hreset]
  exact Bool.false_ne_true

theorem cueExpires_inReset : ¬cueExpires s = true := by
  rw [cueExpires, hreset]
  exact Bool.false_ne_true

theorem handlerHead_inReset : handlerHead s = none := by
  rw [handlerHead, hreset]
  rfl

theorem exec_inReset (i : Instr) : exec i s = .next s ∨ Instr.IsResetRow i := by
  induction i with
  | powerOn closed => exact .inr (.inl ⟨closed, rfl⟩)
  | resetPin edge => exact .inr (.inr (.inl ⟨edge, rfl⟩))
  | supplyBelowThreshold => exact .inr (.inr (.inr rfl))
  | unknownCommand => exact .inl (congrArg _ ((if_congr Iff.rfl rfl (if_pos hreset)).trans (ite_self s)))
  | laneResult k r => exact next_ite_of_not (resultDue_inReset hreset k) _
  | holdExpiry k r | laneLost k r => exact next_ite_of_not (fun h => resultDue_inReset hreset k (Bool.and_eq_true_iff.1 h).1) _
  | cueExpired => exact next_ite_of_not (cueExpires_inReset hreset) _
  | frameBoundary | cutFadeEnd | clockLost | settlingStart | settlingAbort | clockBack | framing | lineHighBitTime =>
    exact runs_inReset hreset _ _
  | keyDown =>
    refine .inl ?_
    rw [show exec .keyDown s = execKeyDown s from rfl, execKeyDown, handlerHead_inReset hreset]
  | keyUp =>
    refine .inl ?_
    rw [show exec .keyUp s = execKeyUp s from rfl, execKeyUp, handlerHead_inReset hreset]
  | keysClear =>
    refine .inl ?_
    rw [show exec .keysClear s = execKeysClear s from rfl, execKeysClear, handlerHead_inReset hreset]
  | latch =>
    refine .inl ?_
    rw [show exec .latch s = execLatch s from rfl, execLatch, handlerHead_inReset hreset]
  | sceneCue =>
    refine .inl ?_
    rw [show exec .sceneCue s = execSceneCue s from rfl, execSceneCue, handlerHead_inReset hreset]
  | setlistStep =>
    refine .inl ?_
    rw [show exec .setlistStep s = execSetlistStep s from rfl, execSetlistStep, handlerHead_inReset hreset]
  | cueFire =>
    refine .inl ?_
    rw [show exec .cueFire s = execCueFire s from rfl, execCueFire, handlerHead_inReset hreset]
  | poll | send | fetch | malformedFrame | pedal => exact ite_inReset hreset _
  | stray | cueLinkMessage | partialMessage => exact lineRow_inReset hreset _ _
  | _ => exact commandRow_inReset hreset _ _

end

/-! ### What a hard reset leaves -/

theorem resetNotices_get (code : Nat) (k : Fin 17) :
    (Notice.resetAll.set 0 { pending := true, count := 1, subject := code, enabled := true, urgent := true })[k] =
      { pending := k.val = 0, count := if k.val = 0 then 1 else 0, subject := if k.val = 0 then code else 0, enabled := true,
        urgent := k.val ∈ [0, 1, 9, 10, 16] } := by
  cases k using Fin.cases with
  | zero => rfl
  | succ k =>
    have hdefault : ∀ k : Fin 16, Notice.resetAll[k.succ] = .reset (k.succ.val ∈ [0, 1, 9, 10, 16]) := by decide
    exact (Vector.getElem_set_ne (Nat.zero_lt_succ 16) k.succ.isLt (Nat.zero_ne_add_one k)).trans (hdefault k)

theorem hardReset_reset : State.reset.hardReset .powerOn (Vector.replicate 4 false) = State.reset := by
  rw [State.hardReset, resetPedals, Vector.map_replicate]
  rfl

/-- Settles O47: the three rows by what holds the part; every hard reset leaves the same values. -/
theorem hardResets : Obligations.HardResets := by
  unfold Obligations.HardResets
  intro leaves
  have hard (s : State) (cause : ResetCause) (closed : Vector Bool 4) :
      leaves (s.hardReset cause closed) cause (causeCode cause) closed := by
    refine ⟨fun k => Vector.getElem_replicate _, fun i => Vector.getElem_replicate _, fun i => Vector.getElem_replicate _,
      rfl, rfl, rfl, rfl, fun n => Vector.getElem_replicate _, rfl, rfl, rfl, rfl, rfl, fun k => ?_, rfl, rfl,
      resetNotices_get (causeCode cause), fun p => Vector.getElem_map _ _, rfl, rfl⟩
    have hmixer : (s.hardReset cause closed).mixers[k] = { dry := .zero, bypass := .zero } := Vector.getElem_replicate _
    have hdelay : (s.hardReset cause closed).audio.delay[k] = List.replicate 256 0 := Vector.getElem_replicate _
    rw [hmixer]
    exact ⟨rfl, rfl, rfl, rfl, hdelay⟩
  refine ⟨hardReset_reset ▸ hard .reset .powerOn (Vector.replicate 4 false), fun s closed => ?_⟩
  intro lasts ends
  refine ⟨decide_eq_true_iff,
    fun h => ⟨⟨_, exec_powerOn_of closed h, hard s .powerOn closed, rfl⟩, exec_resetPinFalls_of h, exec_resetPinRises_of closed h,
      exec_supplyBelowThreshold_of h⟩,
    fun h => ⟨exec_powerOn_of closed h, exec_resetPinFalls_of h,
      ⟨_, exec_resetPinRises_of closed h, hard s .resetPin closed, rfl⟩, exec_supplyBelowThreshold_of h⟩,
    fun h => ⟨⟨_, exec_powerOn_of closed h, hard s .powerOn closed, rfl⟩, exec_resetPinFalls_of h, exec_resetPinRises_of closed h,
      exec_supplyBelowThreshold_of h⟩,
    fun h => ⟨exec_powerOn_of closed h, exec_resetPinFalls_of h, exec_resetPinRises_of closed h, exec_supplyBelowThreshold_of h⟩,
    fun h => ⟨exec_powerOn_of closed h, exec_resetPinFalls_of h,
      ⟨_, exec_resetPinRises_of closed h, hard s .powerOn closed, rfl⟩, exec_supplyBelowThreshold_of h⟩,
    fun hreset i hpower hpin hsupply => (exec_inReset hreset i).resolve_right fun h => ?_⟩
  obtain ⟨c, hc⟩ | ⟨e, he⟩ | hi := h
  · exact hpower c hc
  · exact hpin e he
  · exact hsupply hi

end Sys2Proof.Machine
end

section
/-! PROOF. The loss and the return of the clock (R24, R61, R164, R165, R168 to R170). -/

namespace Sys2Proof.Machine

/-! ### The voices at the clock's return (R61) -/

section
variable {s : State}

theorem clockReturnVoice_of {v : Voice} {state : VoiceState} : v.state = state → clockReturnVoice v = match state with
    | .free => v
    | .pending => v
    | .acquiring => v
    | .active => toAcquiring v
    | .holding => toAcquiring v
    | .releasing => v := by
  rintro rfl
  rfl

theorem mem_releasing {i : Slot} : i ∈ (List.finRange 16).filter (fun i : Slot => s.voices[i].state = .releasing) ↔
    s.voices[i].state = .releasing :=
  List.mem_filter.trans ((and_iff_right (List.mem_finRange i)).trans decide_eq_true_iff)

theorem State.clockReturnVoices_get (i : Slot) : s.clockReturnVoices.voices[i] =
    clockReturnVoice (if s.voices[i].state = .releasing then .freeSlot s.voices[i].generation else s.voices[i]) :=
  (congrArg (fun t : State => t.voices[i]) s.clockReturnVoices_eq).trans ((Vector.getElem_map ..).trans
    (congrArg clockReturnVoice ((State.foldl_free_get (f := State.freeVoice) (fun _ _ => rfl) _ s i).trans
      (if_congr mem_releasing rfl rfl))))

/-- Slots that leave a list one after another. -/
theorem foldl_filter_ne (l a : List Slot) :
    l.foldl (fun a i => a.filter (· ≠ i)) a = a.filter fun j => decide (j ∉ l) := by
  induction l generalizing a with
  | nil => exact (List.filter_eq_self.2 fun _ _ => decide_eq_true List.not_mem_nil).symm
  | cons i l ih =>
    refine (ih _).trans (List.filter_filter.trans (List.filter_congr fun j _ => ?_))
    exact (Bool.decide_and _ _).symm.trans (decide_eq_decide.2
      (and_comm.trans (not_or.symm.trans (not_congr List.mem_cons.symm))))

theorem filter_releasing (a : List Slot) :
    (a.filter fun j => decide (j ∉ (List.finRange 16).filter fun i : Slot => s.voices[i].state = .releasing)) =
      a.filter fun i => decide (s.voices[i].state ≠ .releasing) :=
  List.filter_congr fun _ _ => decide_eq_decide.2 (not_congr mem_releasing)

section
variable {v : State} {vs : Vector Voice 16} (hv : s.clockReturnVoices = v) (hvoices : s.voices = vs)
include hv hvoices

theorem State.clockReturnVoices_ageList {a : List Slot} (ha : s.ageList = a) :
    v.ageList = a.filter fun i => decide (vs[i].state ≠ .releasing) := by
  subst hv hvoices ha
  exact (congrArg State.ageList s.clockReturnVoices_eq).trans ((List.foldl_hom State.ageList fun _ _ => rfl).symm.trans
    ((foldl_filter_ne _ s.ageList).trans (filter_releasing _)))

theorem State.clockReturnVoices_releaseList {a : List Slot} (ha : s.releaseList = a) :
    v.releaseList = a.filter fun i => decide (vs[i].state ≠ .releasing) := by
  subst hv hvoices ha
  exact (congrArg State.releaseList s.clockReturnVoices_eq).trans ((List.foldl_hom State.releaseList fun _ _ => rfl).symm.trans
    ((foldl_filter_ne _ s.releaseList).trans (filter_releasing _)))

end

theorem State.clockReturnVoices_notice {j : Fin 17} (hj : j ≠ 6) : s.clockReturnVoices.notices[j] = s.notices[j] := by
  unfold State.clockReturnVoices
  dsimp only
  generalize (List.finRange 16).filter _ = freed
  exact (State.raiseFreed_get _ freed hj).trans (congrArg (fun t : State => t.notices[j]) (State.foldl_freeVoice_frame freed s) :)

theorem clockReturnVoice_cases {v : State} (hv : s.clockReturnVoices = v) {i : Slot} {w : Voice} (hw : s.voices[i] = w) :
    (w.state = .free ∨ w.state = .pending ∨ w.state = .acquiring → v.voices[i] = w) ∧
    (w.state = .active ∨ w.state = .holding → v.voices[i] = toAcquiring w) ∧
    (w.state = .releasing → v.voices[i] = .freeSlot w.generation) := by
  have hget : v.voices[i] = clockReturnVoice (if w.state = .releasing then .freeSlot w.generation else w) :=
    hv ▸ hw ▸ s.clockReturnVoices_get i
  have stays {state : VoiceState} (hstate : w.state = state) (hne : state ≠ .releasing) : v.voices[i] = clockReturnVoice w :=
    hget.trans (congrArg clockReturnVoice (if_neg (hstate ▸ hne)))
  refine ⟨fun h => ?_, fun h => ?_, fun h => hget.trans (congrArg clockReturnVoice (if_pos h))⟩
  · obtain h | h | h := h
    all_goals exact (stays h (by decide)).trans (clockReturnVoice_of h)
  · obtain h | h := h
    all_goals exact (stays h (by decide)).trans (clockReturnVoice_of h)

end

/-! ### The entry to PRESENT (R165, R170) -/

/-- A gain of 0 sent toward a target, after one sample (R161, R165). -/
theorem advanceRamp_setRampTarget (target : Nat) : advanceRamp (setRampTarget .zero target) =
    { start := 0, target := target, position := if target = 0 then 256 else 1 } := by
  by_cases h : target = 0
  · rw [h]
    rfl
  · have hstarts : setRampTarget .zero target = { start := 0, target := target, position := 0 } :=
      if_neg fun hsame => h hsame.2.symm
    rw [hstarts, if_neg h]
    rfl

/-- The clock's entry to PRESENT after edges of the settling. -/
theorem present_countEdges {c : Supervisor} (h : c.state = .settling) (n : Nat) :
    { countEdges n c with state := .present, gap := 0, settle := 512, period := 0, frame := 0 } =
      { c with state := .present, gap := 0, settle := 512, period := 0, frame := 0 } := by
  obtain rfl | hn := eq_or_ne n 0
  · rw [countEdges, if_pos rfl]
  · rw [countEdges_settling h hn]

/-- The lanes and the supervisor at the entry to PRESENT (R24, R170). -/
noncomputable def State.returning (w : State) : State := { w with
  clock := { w.clock with state := .present, gap := 0, settle := 512, period := 0, frame := 0 }
  lanes := w.lanes.map clockReturnLane }

/-- The channels and the mixers, the notice and the first sample while PRESENT (R165, R170). -/
noncomputable def State.firstPeriod (v : State) : State := (v.clockReturnRender.raise .clockBack 0).samplePeriod

section
variable {s w v : State}

/-- The settling's last edges and the voices' return leave the rest. -/
theorem State.returned_frame {n : Nat} (hsettling : s.clock.state = .settling) (hw : s.runEdges n = w)
    (hv : w.returning.clockReturnVoices = v) : v = { s with
    clock := { s.clock with state := .present, gap := 0, settle := 512, period := 0, frame := 0 }
    lanes := s.lanes.map clockReturnLane, voices := v.voices, ageList := v.ageList, releaseList := v.releaseList
    notices := v.notices, choiceNo := v.choiceNo, channels := w.channels, mixers := w.mixers, audio := w.audio
    sampleNo := s.sampleNo + n } := by
  have hedges := hw ▸ s.runEdges_eq n
  rw [← present_countEdges hsettling n]
  exact (hv ▸ State.clockReturnVoices_frame _).trans (congrArg (fun w' : State => { w'.returning with
    voices := v.voices, ageList := v.ageList, releaseList := v.releaseList, notices := v.notices, choiceNo := v.choiceNo }) hedges)

theorem exec_clockBack (hreset : s.inReset = false) (hsettling : s.clock.state = .settling) :
    exec .clockBack s = .next (s.runEdges (511 - s.clock.settle)).returning.clockReturnVoices.firstPeriod := by
  rw [← edgesLeft_settling hsettling]
  exact congrArg _ (if_pos ⟨ne_true_of_eq_false hreset, hsettling⟩)

/-- A channel is SILENT, and stays so in the sample (R165). -/
theorem firstPeriod_channel {cs : Vector Channel 16} (hchannels : v.channels = cs) (i : Slot) :
    v.firstPeriod.channels[i] = silenceChannel cs[i] := by
  subst hchannels
  exact (getElem_samplePeriod_channels _ i).trans
    ((congrArg (advanceChannel _ _) (Vector.getElem_map ..)).trans (advanceChannel_silent rfl))

theorem firstPeriod_mixer {k : LaneId} {st : LaneSettings} (hsettings : v.lanes[k].settings = st) : v.firstPeriod.mixers[k] =
    { dry := advanceRamp (setRampTarget .zero (dryTarget st)), bypass := advanceRamp (setRampTarget .zero (bypassTarget st)) } := by
  subst hsettings
  exact (getElem_samplePeriod_mixers _ k).trans (congrArg advanceMixer (Vector.getElem_map ..))

theorem firstPeriod_notice (j : Fin 17) :
    v.firstPeriod.notices[j] = if 2 = j then raiseNotice v.notices[j] 0 else v.notices[j] := State.raise_get _ .clockBack 0 j

end

/-- Settles O46: the supervisor's own writes; at the return the lanes, the voices, the channels and the mixers, then a sample. -/
theorem clockLossAndReturn : Obligations.ClockLossAndReturn := by
  refine ⟨fun s hreset => ?_, fun s hreset hsettling hsettle => ?_⟩
  · have hrunning : ¬(s.inReset : Prop) := ne_true_of_eq_false hreset
    exact ⟨fun h => ⟨s.lanes.map (setDue false), fun k => Vector.getElem_map .., congrArg _ (if_pos ⟨hrunning, h⟩)⟩,
      fun h => ⟨_, _, _, samplePeriod_passes { s with clock := { s.clock with state := .settling, settle := 1, gap := 0 } },
        congrArg _ (if_pos ⟨hrunning, h⟩)⟩, fun h => congrArg _ (if_pos ⟨hrunning, h⟩)⟩
  · intro edges w
    have hedges := s.runEdges_eq edges
    obtain ⟨v, hv⟩ : ∃ v, w.returning.clockReturnVoices = v := ⟨_, rfl⟩
    have hframe := State.returned_frame hsettling (w := w) rfl hv
    have hnotice {j : Fin 17} (hj : j ≠ 6) : v.notices[j] = s.notices[j] :=
      hv ▸ (State.clockReturnVoices_notice hj).trans (congrArg (fun u : State => u.notices[j]) hedges :)
    have hlane (k : LaneId) : v.lanes[k] = clockReturnLane s.lanes[k] :=
      (congrArg (fun u : State => u.lanes[k]) hframe :).trans (Vector.getElem_map ..)
    have hsettings (k : LaneId) : v.lanes[k].settings = s.lanes[k].settings :=
      (congrArg Lane.settings (hlane k)).trans (clockReturnLane_settings_chars _).1
    have hvoices : w.returning.voices = s.voices := (congrArg State.voices hedges :)
    have haudio : v.audio = w.audio := (congrArg State.audio hframe :)
    refine ⟨hsettling ▸ s.runEdges_pass edges, v.firstPeriod, hv ▸ exec_clockBack hreset hsettling, (congrArg State.clock hframe :), hlane, fun i => ?_,
      State.clockReturnVoices_ageList hv hvoices (congrArg State.ageList hedges :),
      State.clockReturnVoices_releaseList hv hvoices (congrArg State.releaseList hedges :), firstPeriod_channel (congrArg State.channels hframe :), fun k => ?_,
      haudio ▸ State.samplePeriod_carries (congrArg (fun u : State => u.clock.state) hframe :),
      (congrArg (fun u : State => u.sampleNo + 1) hframe :), fun k => ?_,
      (firstPeriod_notice 2).trans ((if_pos rfl).trans (congrArg (raiseNotice · 0) (hnotice (by decide)))),
      fun kind h2 h6 => (firstPeriod_notice kind).trans ((if_neg (Ne.symm h2)).trans (hnotice h6)), (congrArg State.queue hframe :),
      (congrArg State.cue hframe :), (congrArg State.setlist hframe :), (congrArg State.keyMap hframe :),
      (congrArg State.scenes hframe :), (congrArg State.chord hframe :), (congrArg State.link hframe :),
      (congrArg State.pedals hframe :), (congrArg State.port hframe :), (congrArg State.currentScene hframe :),
      (congrArg State.inReset hframe :).trans hreset, (congrArg State.pending hframe :)⟩
    · obtain ⟨hstays, hreturns, hfreed⟩ :=
        clockReturnVoice_cases hv (congrArg (fun vs : Vector Voice 16 => vs[i]) hvoices)
      exact ⟨hstays, hreturns, fun h => ⟨(congrArg Voice.state (hfreed h) :), (congrArg Voice.generation (hfreed h) :)⟩⟩
    · exact (getElem_samplePeriod_delay _ k).trans (congrArg (fun u : State => feedLine u.audio.delay[k] k u.sampleNo) hframe :)
    · have hmixer := firstPeriod_mixer (hsettings k)
      exact ⟨(congrArg Mixer.dry hmixer).trans (advanceRamp_setRampTarget _),
        (congrArg Mixer.bypass hmixer).trans ((advanceRamp_setRampTarget _).trans (congrArg (fun target : Nat =>
          ({ start := 0, target := target, position := if target = 0 then 256 else 1 } : Ramp))
            (if_congr (Bool.and_eq_true ..).to_iff.symm rfl rfl)))⟩

end Sys2Proof.Machine
end

section
/-! PROOF. A scene record examined field by field, and stored (R110, R111). -/

namespace Sys2Proof.Machine

variable {f : CommandFrame}

/-! ### The lane nibbles -/

theorem flagOf?_isNone_iff {n : Nat} : (flagOf? n).isNone = true ↔ 1 < n := by
  obtain _ | _ | n := n
  · exact iff_of_false Bool.false_ne_true (Nat.not_lt_zero _)
  · exact iff_of_false Bool.false_ne_true (Nat.lt_irrefl 1)
  · exact iff_of_true rfl (Nat.succ_lt_succ (Nat.succ_pos n))

section
variable {shift : Nat} {nibble : Nat → Nat} (hnibble : ∀ k, (dataByte f (6 + k)).toNat / shift % 16 = nibble k)
include hnibble

theorem badLaneNibble_eq_some {k : LaneId} (hbad : ¬nibble k.val ≤ 1) (hbelow : ∀ j : LaneId, j < k → nibble j.val ≤ 1) :
    badLaneNibble f shift = some k.val :=
  List.find?_range_eq_some.2 ⟨flagOf?_isNone_iff.2 (Nat.lt_of_not_le (hnibble k ▸ hbad)), List.mem_range.2 k.isLt, fun j hj =>
    congrArg (!·) (Bool.eq_false_of_not_eq_true fun h => Nat.not_le.2 (flagOf?_isNone_iff.1 h)
      (hnibble j ▸ hbelow ⟨j, hj.trans k.isLt⟩ hj))⟩

theorem badLaneNibble_eq_none (hall : ∀ j : LaneId, nibble j.val ≤ 1) : badLaneNibble f shift = none :=
  List.find?_range_eq_none.2 fun j hj => congrArg (!·) (Bool.eq_false_of_not_eq_true fun h =>
    Nat.not_le.2 (flagOf?_isNone_iff.1 h) (hnibble j ▸ hall ⟨j, hj⟩))

end

theorem modeNibble (k : Nat) : (dataByte f (6 + k)).toNat / 1 % 16 = (dataByte f (6 + k)).toNat % 16 := by rw [Nat.div_one]

theorem bypassNibble (k : Nat) : (dataByte f (6 + k)).toNat / 16 % 16 = (dataByte f (6 + k)).toNat / 16 :=
  Nat.mod_eq_of_lt (Nat.div_lt_of_lt_mul (dataByte f (6 + k)).isLt)

/-! ### The header -/

theorem takeModeOf?_of_gt {b : Byte} (h : 1 < b.toNat) : takeModeOf? b = none :=
  (if_neg fun h0 => absurd (h0 ▸ h) (by decide)).trans (if_neg fun h1 => absurd (h1 ▸ h) (by decide))

theorem takeModeOf?_of_le {b : Byte} (h : b.toNat ≤ 1) : takeModeOf? b = some (if b = 0 then .keepControl else .clearAll) := by
  obtain h | h := Nat.le_one_iff_eq_zero_or_eq_one.1 h
  · rw [show b = 0 from BitVec.eq_of_toNat_eq h]; rfl
  · rw [show b = 1 from BitVec.eq_of_toNat_eq h]; rfl

/-- The settings of a scene record's four lanes. -/
noncomputable def sentLanes (f : CommandFrame) : Vector SceneLane 4 :=
  #v[sceneLaneAt f 0, sceneLaneAt f 1, sceneLaneAt f 2, sceneLaneAt f 3]

theorem sceneOf_of {key : Except Nat KeyMap} {mode : Option TakeMode} {onBad bypassBad : Option Nat} :
    keyMapOf (dataByte f 0) (dataByte f 1) (dataByte f 2) (dataByte f 3) = key → takeModeOf? (dataByte f 4) = mode →
    badLaneNibble f 1 = onBad → badLaneNibble f 16 = bypassBad → sceneOf f = match key with
      | .error e => .error e
      | .ok keyMap => match mode with
        | none => .error 3
        | some takeMode => if 8 < (dataByte f 5).toNat then .error 4
          else match onBad with
            | some k => .error (5 + k)
            | none => match bypassBad with
              | some k => .error (9 + k)
              | none => (sceneTemplatesOf f (sentLanes f) (dataByte f 5).toNat []).map fun templates =>
                { keyMap := keyMap, takeMode := takeMode, lanes := sentLanes f, templates := templates } := by
  rintro rfl rfl rfl rfl
  rfl

/-! ### The templates in use -/

section
variable {lanes : Vector SceneLane 4} {ts : List Template}

theorem not_off {b : Bool} (h : b = true) : ¬(!b) = true := fun hoff => Bool.false_ne_true ((congrArg (!·) h).symm.trans hoff)

/-- Templates that pass, in their fields, their lanes and their tags, are taken one after another (R110). -/
theorem sceneTemplatesOf_take (hexamined : ∀ (i : Nat) (h : i < ts.length), examinedTemplate f i = .ok ts[i])
    (hon : ∀ (i : Nat) (h : i < ts.length), (lanes.get ts[i].lane).on = true)
    (hfresh : ∀ (i : Nat) (h : i < ts.length) (j : Nat) (hj : j < i),
      ¬((ts[j]'(hj.trans h)).tag = ts[i].tag ∧ (ts[j]'(hj.trans h)).lane = ts[i].lane)) (todo : Nat) {i : Nat}
    (hi : i ≤ ts.length) : sceneTemplatesOf f lanes (i + todo) [] = sceneTemplatesOf f lanes todo (ts.take i) := by
  induction i generalizing todo with
  | zero => rw [Nat.zero_add]; rfl
  | succ i ih =>
    have hlength : (ts.take i).length = i := List.length_take_of_le (Nat.le_of_succ_le hi)
    rw [Nat.succ_add_eq_add_succ, ih (todo + 1) (Nat.le_of_succ_le hi)]
    refine (sceneTemplatesOf_succ ((congrArg (examinedTemplate f) hlength).trans (hexamined i hi))).trans
      ((if_neg ?_).trans ((if_neg ?_).trans ?_))
    · exact not_off (hon i hi)
    · intro hany
      obtain ⟨d, hd, hsame⟩ := List.any_eq_true.1 hany
      obtain ⟨j, hj, rfl⟩ := List.mem_take_iff_getElem.1 hd
      exact hfresh i hi j (Nat.lt_of_lt_of_le hj (Nat.min_le_left _ _)) (both_of_decides hsame)
    · exact congrArg (sceneTemplatesOf f lanes todo) (List.take_append_getElem hi)

end

/-! ### The scene that is sent -/

theorem sentLanes_eq (f : CommandFrame) : sentLanes f = Vector.ofFn fun k =>
    { on := (dat f (6 + k.val)).toNat % 16 = 1, bypass := (dat f (6 + k.val)).toNat / 16 = 1
      dry := min 4096 (dat f (10 + 2 * k.val) ++ dat f (11 + 2 * k.val) : BitVec 16).toNat } :=
  show (Vector.ofFn fun k : Fin 4 => sceneLaneAt f k.val) = _ from congrArg Vector.ofFn (funext fun k => by
    rw [sceneLaneAt, levelOf, unsigned16_eq_toNat]
    rfl)

theorem examinedTemplate_eq (f : CommandFrame) (t : Nat) : examinedTemplate f t =
    templateOf (fun i => dat f (18 + 16 * t + i)) (if h : (dat f (19 + 16 * t)).toNat < 4 then some ⟨_, h⟩ else none) := by
  rw [examinedTemplate, Nat.add_right_comm]
  rfl

/-- The scene that a record with the tonic `t` carries, with its templates. -/
noncomputable def sentScene (f : CommandFrame) (t : Fin 12) (templates : List Template) : Scene :=
  { keyMap := { tonic := t, members := (dataByte f 1 ++ dataByte f 2 : BitVec 16).setWidth 12 ||| BitVec.twoPow 12 t.val
                ref := max (-50) (min 50 (dataByte f 3).toInt) }
    takeMode := if dataByte f 4 = 0 then .keepControl else .clearAll
    lanes := sentLanes f, templates := templates }

theorem sceneOf_of_header {t : Fin 12} (ht : (dataByte f 0).toNat = t.val)
    (hset : ¬4096 ≤ (dataByte f 1 ++ dataByte f 2 : BitVec 16).toNat) (hmode : (dataByte f 4).toNat ≤ 1)
    (hcount : (dataByte f 5).toNat ≤ 8) {onBad bypassBad : Option Nat} :
    badLaneNibble f 1 = onBad → badLaneNibble f 16 = bypassBad → sceneOf f = match onBad with
      | some k => .error (5 + k)
      | none => match bypassBad with
        | some k => .error (9 + k)
        | none => (sceneTemplatesOf f (sentLanes f) (dataByte f 5).toNat []).map (sentScene f t) :=
  fun hon hbypass =>
  (sceneOf_of (keyMapOf_of_set_lt _ _ _ ht hset) (takeModeOf?_of_le hmode) hon hbypass).trans (if_neg (Nat.not_lt.2 hcount) :)

theorem answerLoadScene_badTarget {u : State} (h : 32 ≤ (operand f 0).toNat) :
    answerLoadScene f u = .refused .badTarget (operand f 0).toNat := by
  rw [answerLoadScene, sceneOf?_of_ge h]

section
variable {s : State} (htakes : Takes s ⟨0x32, f⟩) (hlength : f.declared = 148) {n : SceneId} (hn : f.operands[0].toNat = n.val)
include htakes hlength hn

theorem loadScene_error {d : Nat} (h : sceneOf f = .error d) :
    exec (.loadScene f) s = .next (refusedState (atTaking s ⟨0x32, f⟩) 1 3 0x32 (BitVec.ofNat 8 d)) := by
  have hanswer : answerLoadScene f (atTaking s ⟨0x32, f⟩) = .refused .badParam d := by
    rw [answerLoadScene, show sceneOf? (operand f 0) = _ from sceneOf?_of_eq hn, h]
  exact congrArg _ (State.runCommand_refused htakes (congrArg (fun b : Byte => some b.toNat) hlength).symm hanswer)

theorem loadScene_ok {sc : Scene} (h : sceneOf f = .ok sc) :
    exec (.loadScene f) s = .next (doneState ((atTaking s ⟨0x32, f⟩).setScene n (some sc)) []) := by
  have hanswer : answerLoadScene f (atTaking s ⟨0x32, f⟩) = .done ((atTaking s ⟨0x32, f⟩).setScene n (some sc)) [] := by
    rw [answerLoadScene, show sceneOf? (operand f 0) = _ from sceneOf?_of_eq hn, h]
  exact congrArg _ (State.runCommand_done htakes (congrArg (fun b : Byte => some b.toNat) hlength).symm hanswer)

end

/-- Settles O22: the record is examined in the order of its fields, and the templates that pass are taken first. -/
theorem loadSceneExaminesThenStores : Obligations.LoadSceneExaminesThenStores := by
  intro s f htakes hlength u refuses sent modeOk bypassOk count headerOk lanes examined
  have hcommand : requiredLength 0x32 = some f.declared.toNat := (congrArg (fun b : Byte => some b.toNat) hlength).symm
  refine ⟨fun h => congrArg _ (State.runCommand_refused_byte htakes hcommand (answerLoadScene_badTarget h)), fun n hn => ?_⟩
  have refused {d : Nat} (h : sceneOf f = .error d) : refuses d := loadScene_error htakes hlength hn h
  have header (h : headerOk) {onBad bypassBad : Option Nat} := sceneOf_of_header (t := ⟨_, Nat.lt_succ_of_le h.1⟩) rfl
    (Nat.not_le.2 h.2.1) h.2.2.1 h.2.2.2 (onBad := onBad) (bypassBad := bypassBad)
  refine ⟨fun h => refused (sceneOf_of (keyMapOf_of_tonic_ge _ _ _ h) rfl rfl rfl),
    fun h0 h1 => refused (sceneOf_of (keyMapOf_of_set_ge _ _ _ (t := ⟨_, Nat.lt_succ_of_le h0⟩) rfl h1) rfl rfl rfl),
    fun h0 h1 h4 => refused (sceneOf_of (keyMapOf_of_set_lt _ _ _ (t := ⟨_, Nat.lt_succ_of_le h0⟩) rfl (Nat.not_le.2 h1))
      (takeModeOf?_of_gt h4) rfl rfl),
    fun h0 h1 h4 h5 => refused ((sceneOf_of (keyMapOf_of_set_lt _ _ _ (t := ⟨_, Nat.lt_succ_of_le h0⟩) rfl (Nat.not_le.2 h1))
      (takeModeOf?_of_le h4) rfl rfl).trans (if_pos h5 :)),
    fun hheader k hbad hbelow => refused (header hheader (badLaneNibble_eq_some modeNibble hbad hbelow) rfl),
    fun hheader hmodes k hbad hbelow => refused (header hheader (badLaneNibble_eq_none modeNibble hmodes)
      (badLaneNibble_eq_some bypassNibble hbad hbelow)), fun hheader hnibbles ts hcount hpasses => ?_⟩
  · have hscene {r : Except Nat (List Template)} (hr : sceneTemplatesOf f (sentLanes f) count [] = r) :
        sceneOf f = r.map (sentScene f _) := hr ▸ header hheader (badLaneNibble_eq_none modeNibble fun j => (hnibbles j).1)
      (badLaneNibble_eq_none bypassNibble fun j => (hnibbles j).2)
    have hlanes : lanes = sentLanes f := (sentLanes_eq f).symm
    obtain ⟨todo, htodo⟩ := Nat.exists_eq_add_of_le hcount
    have htaken : sceneTemplatesOf f (sentLanes f) count [] = sceneTemplatesOf f (sentLanes f) todo ts := by
      rw [htodo]
      exact (sceneTemplatesOf_take (fun i h => (examinedTemplate_eq f i).trans (hpasses i h).1)
        (fun i h => hlanes ▸ (hpasses i h).2.1) (fun i h => (hpasses i h).2.2) todo le_rfl).trans
        (congrArg _ List.take_length)
    refine ⟨fun hall => ⟨⟨_, Nat.lt_succ_of_le hheader.1⟩, rfl, ?_⟩, fun hmore => ?_⟩
    · obtain rfl : todo = 0 := Nat.add_eq_left.1 (htodo.symm.trans hall.symm)
      exact (loadScene_ok htakes hlength hn (hscene htaken)).trans
        (congrArg₂ (fun (scenes : Vector (Option Scene) 32) (ls : Vector SceneLane 4) => Host.Outcome.next (doneState
          { u with scenes := scenes.set n (some { sentScene f _ ts with lanes := ls }) } [])) (atTaking_scenes s _) hlanes.symm)
    · obtain _ | todo := todo
      · exact absurd htodo hmore.ne'
      have hnext {r : Except Nat Template} (hr : examined ts.length = r) :=
        htaken.trans (sceneTemplatesOf_succ (todo := todo) ((examinedTemplate_eq f ts.length).trans hr))
      have refusedAt {d : Nat} (h : sceneTemplatesOf f (sentLanes f) count [] = .error d) : refuses d := refused (hscene h)
      have hmode {tpl : Template} {on : Bool} (h : lanes[tpl.lane].on = on) : (sentLanes f)[tpl.lane].on = on := hlanes ▸ h
      exact ⟨fun e he => refusedAt (hnext he), fun tpl htpl => ⟨fun hoff =>
        refusedAt ((hnext htpl).trans (if_pos (congrArg (!·) (hmode hoff)))), fun hon ⟨d, hd, htag, hlane⟩ =>
        refusedAt ((hnext htpl).trans ((if_neg (not_off (hmode hon))).trans
          (if_pos (List.any_eq_true.2 ⟨d, hd, both_of_and ⟨htag, hlane⟩⟩))))⟩⟩

end Sys2Proof.Machine
end

section
/-! PROOF. The record of a stored scene, sent back, is that scene (R110, R113, R191). -/

namespace Sys2Proof.Machine

/-! ### Numbers read back from their bytes -/

theorem toNat_byte {n : Nat} (h : n ≤ 255) : (byte n).toNat = n :=
  (BitVec.toNat_ofNat n 8).trans (Nat.mod_eq_of_lt (Nat.lt_succ_of_le h))

theorem toInt_signedByte {z : Int} (h : -50 ≤ z ∧ z ≤ 119) : (signedByte z).toInt = z :=
  BitVec.toInt_ofInt_eq_self (by decide) (le_trans (by decide) h.1) (lt_of_le_of_lt h.2 (by decide))

theorem unsigned16_bytes {n : Nat} (h : n ≤ 4096) : unsigned16 (byte (n / 256)) (byte n) = n := by
  rw [unsigned16, toNat_byte (Nat.div_le_of_le_mul (h.trans (by decide))), byte, BitVec.toNat_ofNat]
  exact Nat.div_add_mod' n 256

theorem levelOf_bytes {n : Nat} (h : n ≤ 4096) : levelOf (byte (n / 256)) (byte n) = n :=
  (congrArg (min 4096) (unsigned16_bytes h)).trans (Nat.min_eq_right h)

theorem clampInt_eq_self {lo hi x : Int} (h : lo ≤ x ∧ x ≤ hi) : clampInt lo hi x = x :=
  (congrArg (max lo) (min_eq_right h.2)).trans (max_eq_right h.1)

theorem detuneOf_signedByte {z : Int} (h : -50 ≤ z ∧ z ≤ 50) : detuneOf (signedByte z) = z :=
  (congrArg _ (toInt_signedByte ⟨h.1, h.2.trans (by decide)⟩)).trans (clampInt_eq_self h)

/-! ### A template's sixteen bytes -/

theorem bounds_of_decides {lo hi z : Int} (hlo : -50 ≤ lo) (hhi : hi ≤ 119) (h : (decide (lo ≤ z) && decide (z ≤ hi)) = true) :
    -50 ≤ z ∧ z ≤ 119 :=
  have ⟨hmin, hmax⟩ := both_of_decides h
  ⟨hlo.trans hmin, hmax.trans hhi⟩

theorem operandAllowed_bounds {kind : RuleKind} {z : Int} (h : operandAllowed kind z = true) : -50 ≤ z ∧ z ≤ 119 := by
  induction kind with
  | scale | fixed | pinned => exact bounds_of_decides (by decide) (by decide) h
  | chord =>
    obtain h | h := Bool.or_eq_true_iff.1 h
    · exact bounds_of_decides (by decide) (by decide) h
    · exact bounds_of_decides (by decide) (by decide) h

theorem storedTemplate_eq {b : Nat → Byte} {k : LaneId} {kind : RuleKind} {op fallback detune : Int}
    {tag follow lo hi glide level pan attack release : Nat} {group : Group} : (b 0).toNat = tag → followOf (b 5) = follow →
    detuneOf (b 6) = detune → glideOf (b 9) = glide → levelOf (b 10) (b 11) = level → panOf (b 12) = pan →
    stepOf (b 14) = attack → stepOf (b 15) = release → storedTemplate b k (kind, op) fallback (lo, hi) group =
      ⟨tag, k, kind, op, fallback, follow, detune, lo, hi, glide, level, pan, group, attack, release⟩ := by
  rintro rfl rfl rfl rfl rfl rfl rfl rfl
  rfl

theorem groupOf_code (g : Group) : groupOf (groupCode g) = .ok g := by
  induction g with
  | foreground | background => rfl

theorem ok_bind {α β : Type} {x : Except Nat α} {a : α} {f : α → Except Nat β} {r : Except Nat β} (h : x = .ok a) (hr : f a = r) :
    x.bind f = r := h ▸ hr

theorem rangeOf_bytes {lo hi : Nat} (hlo : 12 ≤ lo) (hspan : lo + 12 ≤ hi) (hhi : hi ≤ 108) :
    rangeOf (byte lo) (byte hi) = .ok (lo, hi) := by
  have hbelow : lo ≤ 108 := (Nat.le_of_add_right_le hspan).trans hhi
  rw [rangeOf, toNat_byte (hbelow.trans (by decide)), toNat_byte (hhi.trans (by decide))]
  exact (if_neg (not_not.2 ⟨hlo, hbelow⟩)).trans
    (if_neg (not_or.2 ⟨not_not.2 ⟨(Nat.le_add_left 12 lo).trans hspan, hhi⟩, Nat.not_lt.2 hspan⟩))

theorem fallbackOf_signedByte {z : Int} (h : -14 ≤ z ∧ z ≤ 14) : fallbackOf (signedByte z) = .ok z := by
  rw [fallbackOf, toInt_signedByte ⟨h.1.trans' (by decide), h.2.trans (by decide)⟩, if_pos h]

theorem ruleOf_bytes {kind : RuleKind} {z : Int} (h : operandAllowed kind z = true) :
    ruleOf (ruleCode kind) (signedByte z) = .ok (kind, z) := by
  rw [ruleOf_code, toInt_signedByte (operandAllowed_bounds h), if_pos h]

theorem min_toNat_byte {n m : Nat} (hm : m ≤ 255) (hn : n ≤ m) : min m (byte n).toNat = n :=
  (congrArg (min m) (toNat_byte (hn.trans hm))).trans (Nat.min_eq_right hn)

theorem stepOf_byte {n : Nat} (h : 1 ≤ n ∧ n ≤ 255) : stepOf (byte n) = n :=
  (congrArg (max 1) (toNat_byte h.2)).trans (Nat.max_eq_right h.1)

/-- A legal template is read back from its bytes, whatever follows them (R45). -/
theorem templateOf_of_templateBytes {t : Template} (h : TemplateLegal t) {b : Nat → Byte} {rest : List Byte}
    (hbyte : ∀ i, b i = (templateBytes t ++ rest).getD i 0) : templateOf b (laneOf? (b 1)) = .ok t := by
  obtain ⟨htag, hop, hfallback, hfollow, hdetune, hrange, hglide, hlevel, hpan, hattack, hrelease⟩ := h
  have tag : (b 0).toNat = t.tag := (congrArg BitVec.toNat (hbyte 0)).trans (toNat_byte htag.2)
  have hlane : laneOf? (b 1) = some t.lane :=
    laneOf?_of_eq ((congrArg BitVec.toNat (hbyte 1)).trans (toNat_byte (t.lane.isLt.le.trans (by decide))))
  have htag0 : b 0 ≠ 0 := fun h0 => Nat.ne_of_gt htag.1 (tag.symm.trans (congrArg BitVec.toNat h0))
  exact (congrArg (templateOf b) hlane).trans ((templateOf_eq htag0).trans
    (ok_bind ((congrArg₂ ruleOf (hbyte 2) (hbyte 3)).trans (ruleOf_bytes hop))
      (ok_bind ((congrArg fallbackOf (hbyte 4)).trans (fallbackOf_signedByte hfallback))
        (ok_bind ((congrArg₂ rangeOf (hbyte 7) (hbyte 8)).trans (rangeOf_bytes hrange.1 hrange.2.1 hrange.2.2))
          (ok_bind ((congrArg groupOf (hbyte 13)).trans (groupOf_code t.group)) (congrArg Except.ok
    (storedTemplate_eq tag
      ((congrArg followOf (hbyte 5)).trans (min_toNat_byte (by decide) hfollow))
      ((congrArg detuneOf (hbyte 6)).trans (detuneOf_signedByte hdetune))
      ((congrArg glideOf (hbyte 9)).trans (min_toNat_byte (by decide) hglide))
      ((congrArg₂ levelOf (hbyte 10) (hbyte 11)).trans (levelOf_bytes hlevel))
      ((congrArg panOf (hbyte 12)).trans (min_toNat_byte (by decide) hpan))
      ((congrArg stepOf (hbyte 14)).trans (stepOf_byte hattack))
      ((congrArg stepOf (hbyte 15)).trans (stepOf_byte hrelease)))))))))

/-! ### The templates of a record -/

theorem flatMap_templateBytes_getD (ts : List Template) (rest : List Byte) {t : Nat} (ht : t < ts.length) :
    ∃ after, ∀ i, (ts.flatMap templateBytes ++ rest).getD (16 * t + i) 0 = (templateBytes ts[t] ++ after).getD i 0 := by
  induction ts generalizing t with
  | nil => cases ht
  | cons a ts ih =>
    induction t with
    | zero => exact ⟨ts.flatMap templateBytes ++ rest, fun i => by rw [Nat.mul_zero, Nat.zero_add]; rfl⟩
    | succ t =>
      obtain ⟨after, h⟩ := ih (Nat.lt_of_succ_lt_succ ht)
      exact ⟨after, fun i => (congrArg (fun n => ((a :: ts).flatMap templateBytes ++ rest).getD n 0)
        (Nat.add_right_comm (16 * t) 16 i)).trans (h i)⟩

theorem replicate_zero_getD (n i : Nat) : (List.replicate n (0 : Byte)).getD i 0 = 0 := by
  rw [List.getD_eq_getElem?_getD, List.getElem?_replicate, apply_ite (Option.getD · (0 : Byte))]
  exact ite_self _

theorem length_flatMap_templateBytes (ts : List Template) : (ts.flatMap templateBytes).length = 16 * ts.length := by
  induction ts with
  | nil => rfl
  | cons a ts ih => exact congrArg (· + 16) ih

/-- The byte of a lane's mode and bypass. -/
noncomputable def laneByte (l : SceneLane) : Byte := byte (flag l.on 1 + flag l.bypass 16)

/-- The eighteen bytes before the templates. -/
noncomputable def sceneHeader (sc : Scene) : List Byte :=
  let high (k : LaneId) := byte ((sc.lanes.get k).dry / 256)
  let low (k : LaneId) := byte (sc.lanes.get k).dry
  [byte sc.keyMap.tonic.val, byte (sc.keyMap.members.toNat / 256), byte sc.keyMap.members.toNat, signedByte sc.keyMap.ref,
    takeModeCode sc.takeMode, byte sc.templates.length, laneByte (sc.lanes.get 0), laneByte (sc.lanes.get 1),
    laneByte (sc.lanes.get 2), laneByte (sc.lanes.get 3),
    high 0, low 0, high 1, low 1, high 2, low 2, high 3, low 3]

theorem sceneBytes_eq {sc : Scene} (h : sc.templates.length ≤ 8) : sceneBytes sc =
    sceneHeader sc ++ (sc.templates.flatMap templateBytes ++ List.replicate (130 - 16 * sc.templates.length) 0) := by
  have hlength := length_flatMap_templateBytes sc.templates
  have hfits : 16 * sc.templates.length ≤ 128 := Nat.mul_le_mul_left 16 h
  have hpad : padTo 128 (sc.templates.flatMap templateBytes) ++ [0, 0] =
      sc.templates.flatMap templateBytes ++ List.replicate (130 - 16 * sc.templates.length) 0 := by
    rw [padTo, List.take_of_length_le (hlength.trans_le hfits), hlength, List.append_assoc, Nat.sub_add_comm (m := 2) hfits]
    exact congrArg _ (List.replicate_append_replicate (m := 2))
  have hlanes : sc.lanes = Vector.ofFn fun k => sc.lanes[k] := Vector.ofFn_getElem.symm
  rw [← hpad, sceneBytes, hlanes]
  rfl

/-! ### The header -/

theorem keyMapOf_of {tonic hi lo ref : Byte} {t : Fin 12} {n : Nat} {z : Int} : tonicOf? tonic = some t → unsigned16 hi lo = n →
    ref.toInt = z → keyMapOf tonic hi lo ref = if 4096 ≤ n then .error 1
      else .ok { tonic := t, members := BitVec.ofNat 12 n ||| BitVec.twoPow 12 t.val, ref := clampInt (-50) 50 z } := by
  rintro htonic rfl rfl
  rw [keyMapOf, htonic]

theorem members_or_tonic {k : KeyMap} (h : k.members.getLsbD k.tonic.val = true) :
    BitVec.ofNat 12 k.members.toNat ||| BitVec.twoPow 12 k.tonic.val = k.members := BitVec.eq_of_getLsbD_eq fun i hi => by
  rw [BitVec.ofNat_toNat, BitVec.setWidth_eq, BitVec.getLsbD_or, BitVec.getLsbD_twoPow]
  by_cases hit : k.tonic.val = i
  · rw [← hit, h, Bool.true_or]
  · rw [decide_eq_false hit, Bool.and_false, Bool.or_false]

theorem keyMapOf_keyMapBytes {k : KeyMap} (h : KeyMapLegal k) : keyMapOf (byte k.tonic.val) (byte (k.members.toNat / 256))
    (byte k.members.toNat) (signedByte k.ref) = .ok k :=
  (keyMapOf_of (tonicOf?_of_eq (toNat_byte (k.tonic.isLt.le.trans (by decide)))) (unsigned16_bytes k.members.isLt.le)
    (toInt_signedByte ⟨h.2.1, h.2.2.trans (by decide)⟩)).trans ((if_neg (Nat.not_le.2 k.members.isLt)).trans
      (congrArg₂ (fun m z => Except.ok (KeyMap.mk k.tonic m z)) (members_or_tonic h.1) (clampInt_eq_self h.2)))

/-- A fact about each of the four lanes. -/
theorem forall_lane {P : LaneId → Prop} (h0 : P 0) (h1 : P 1) (h2 : P 2) (h3 : P 3) : ∀ k, P k :=
  Fin.cases h0 (Fin.cases h1 (Fin.cases h2 (Fin.cases h3 fun k => k.elim0)))

theorem flag_nibbles : ∀ on bypass : Bool, (byte (flag on 1 + flag bypass 16)).toNat % 16 = flag on 1 ∧
    (byte (flag on 1 + flag bypass 16)).toNat / 16 = flag bypass 1 := by
  decide

theorem laneByte_mod (l : SceneLane) : (laneByte l).toNat % 16 = flag l.on 1 := (flag_nibbles l.on l.bypass).1

theorem laneByte_div (l : SceneLane) : (laneByte l).toNat / 16 = flag l.bypass 1 := (flag_nibbles l.on l.bypass).2

theorem flag_le_one (p : Bool) : flag p 1 ≤ 1 := by revert p; decide

theorem decide_flag_eq_one (p : Bool) : decide (flag p 1 = 1) = p := by revert p; decide

theorem takeModeOf?_code (m : TakeMode) : takeModeOf? (takeModeCode m) = some m := by
  induction m with
  | keepControl | clearAll => rfl

section
variable {sc : Scene} {f : CommandFrame}

theorem sceneLaneAt_of_bytes {l : SceneLane} (hdry : l.dry ≤ 4096) {k : Nat} : dataByte f (6 + k) = laneByte l →
    dataByte f (10 + 2 * k) = byte (l.dry / 256) → dataByte f (11 + 2 * k) = byte l.dry → sceneLaneAt f k = l := by
  intro hmode hhigh hlow
  rw [sceneLaneAt, hmode, hhigh, hlow, laneByte_mod, laneByte_div, levelOf_bytes hdry, decide_flag_eq_one, decide_flag_eq_one]

theorem sceneOf_of_passed {key : KeyMap} {mode : TakeMode} {lanes : Vector SceneLane 4} {n : Nat}
    {ts : List Template} (hn : n ≤ 8) :
    keyMapOf (dataByte f 0) (dataByte f 1) (dataByte f 2) (dataByte f 3) = .ok key → takeModeOf? (dataByte f 4) = some mode →
    badLaneNibble f 1 = none → badLaneNibble f 16 = none → (dataByte f 5).toNat = n → sentLanes f = lanes →
    sceneTemplatesOf f lanes n [] = .ok ts → sceneOf f = .ok ⟨key, mode, lanes, ts⟩ := by
  rintro hkey hmode hon hbypass rfl rfl htaken
  exact (sceneOf_of hkey hmode hon hbypass).trans ((if_neg (Nat.not_lt.2 hn)).trans (congrArg (Except.map _) htaken))

/-- A record that opens with a legal scene's header is that scene when its templates are taken. -/
theorem sceneOf_of_sceneHeader (hkey : KeyMapLegal sc.keyMap) (hdry : ∀ k : LaneId, (sc.lanes.get k).dry ≤ 4096)
    (hcount : sc.templates.length ≤ 8) {rest : List Byte} (hdata : f.data = sceneHeader sc ++ rest)
    (htaken : sceneTemplatesOf f sc.lanes sc.templates.length [] = .ok sc.templates) : sceneOf f = .ok sc := by
  have hbyte (i : Nat) : dataByte f i = (sceneHeader sc ++ rest).getD i 0 := congrArg (List.getD · i 0) hdata
  have hlaneByte : ∀ k : LaneId, dataByte f (6 + k.val) = laneByte (sc.lanes.get k) :=
    forall_lane (hbyte 6) (hbyte 7) (hbyte 8) (hbyte 9)
  have hlane : ∀ k : LaneId, sceneLaneAt f k.val = sc.lanes.get k :=
    forall_lane (sceneLaneAt_of_bytes (hdry 0) (hbyte 6) (hbyte 10) (hbyte 11))
      (sceneLaneAt_of_bytes (hdry 1) (hbyte 7) (hbyte 12) (hbyte 13))
      (sceneLaneAt_of_bytes (hdry 2) (hbyte 8) (hbyte 14) (hbyte 15))
      (sceneLaneAt_of_bytes (hdry 3) (hbyte 9) (hbyte 16) (hbyte 17))
  have hlanes : sentLanes f = sc.lanes :=
    (congrArg Vector.ofFn (funext hlane) : (Vector.ofFn fun k : LaneId => sceneLaneAt f k.val) = _).trans Vector.ofFn_getElem
  have hmode (k : LaneId) : (dataByte f (6 + k.val)).toNat % 16 ≤ 1 :=
    hlaneByte k ▸ (laneByte_mod _).trans_le (flag_le_one _)
  have hbypass (k : LaneId) : (dataByte f (6 + k.val)).toNat / 16 ≤ 1 :=
    hlaneByte k ▸ (laneByte_div _).trans_le (flag_le_one _)
  exact sceneOf_of_passed hcount (by rw [hbyte, hbyte, hbyte, hbyte]; exact keyMapOf_keyMapBytes hkey)
    ((congrArg takeModeOf? (hbyte 4)).trans (takeModeOf?_code _)) (badLaneNibble_eq_none modeNibble hmode)
    (badLaneNibble_eq_none bypassNibble hbypass)
    ((congrArg BitVec.toNat (hbyte 5)).trans (toNat_byte (hcount.trans (by decide)))) hlanes htaken

end

section
variable {sc : Scene} {f : CommandFrame} (hcount : sc.templates.length ≤ 8) (hdata : f.data = sceneBytes sc)
include hcount

theorem length_sceneBytes : (sceneBytes sc).length = 148 := by
  have hlength {header body zeros : List Byte} {m n : Nat} (hh : header.length = 18) (hb : body.length = m)
      (hz : zeros.length = n) : (header ++ (body ++ zeros)).length = 18 + (m + n) := by
    rw [List.length_append, List.length_append, hh, hb, hz]
  rw [sceneBytes_eq hcount, hlength rfl (length_flatMap_templateBytes _) List.length_replicate,
    Nat.add_sub_of_le (Nat.le_trans (Nat.mul_le_mul_left 16 hcount) (by decide : 128 ≤ 130))]

include hdata

/-- The templates follow the header, and zeros follow them. -/
theorem dataByte_of_sceneBytes (n i : Nat) : dataByte f (18 + n + i) =
    (sc.templates.flatMap templateBytes ++ List.replicate (130 - 16 * sc.templates.length) 0).getD (n + i) 0 :=
  (congrArg₂ (fun l n => List.getD l n 0) (hdata.trans (sceneBytes_eq hcount))
    ((Nat.add_assoc 18 n i).trans (Nat.add_comm 18 _)) :)

theorem examinedTemplate_of_sceneBytes {t : Nat} (ht : t < sc.templates.length) (hlegal : TemplateLegal sc.templates[t]) :
    examinedTemplate f t = .ok sc.templates[t] := by
  obtain ⟨after, hafter⟩ := flatMap_templateBytes_getD sc.templates _ ht
  exact templateOf_of_templateBytes hlegal fun i => (dataByte_of_sceneBytes hcount hdata (16 * t) i).trans (hafter i)

end

/-- Settles O24: the header and each template are read back, and beyond them the record is filled with zeros. -/
theorem sceneRecordRoundTrip : Obligations.SceneRecordRoundTrip := by
  intro sc f hlegal hdata
  obtain ⟨hkey, hdry, hcount, htemplates, hnodup⟩ := hlegal
  refine ⟨hdata ▸ length_sceneBytes hcount, ?_, fun i hi => ?_⟩
  · refine sceneOf_of_sceneHeader hkey hdry hcount (hdata.trans (sceneBytes_eq hcount))
      ((sceneTemplatesOf_take (fun t ht => examinedTemplate_of_sceneBytes hcount hdata ht (htemplates _ (List.getElem_mem ht)).1)
        (fun t ht => (htemplates _ (List.getElem_mem ht)).2) (fun t ht j hj hsame => ?_) 0 le_rfl).trans
        (congrArg Except.ok List.take_length))
    exact List.pairwise_iff_getElem.1 (List.pairwise_map.1 hnodup) j t (hj.trans ht) ht hj (Prod.ext hsame.2 hsame.1)
  · obtain ⟨j, rfl⟩ := Nat.exists_eq_add_of_le hi
    have hflat := length_flatMap_templateBytes sc.templates
    exact (dataByte_of_sceneBytes hcount hdata _ j).trans
      ((List.getD_append_right _ _ 0 _ (hflat.trans_le (Nat.le_add_right _ _))).trans (replicate_zero_getD _ _))

end Sys2Proof.Machine
end

section
/-! PROOF. The entries of the change queue applied, but for settings and takes (R50, R59, R65, R67 to R69, R97, R98, R101). -/

namespace Sys2Proof.Machine

variable {s : State}

/-! ### Entries with a handle (R97) -/

section
variable {h : Handle}

theorem applyEntry_stale (hstale : s.voices[h.slot].state = .free ∨ s.voices[h.slot].generation ≠ h.generation) :
    handleCurrent s h = false :=
  Bool.eq_false_of_not_eq_true fun hcurrent => (both_of_decides hcurrent).elim fun hpresent hsame =>
    hstale.elim hpresent fun hother => hother hsame

theorem activated_eq (t : Tracking) (v : Voice) : activated t v =
    if t = .locked ∨ t = .hold then { v with state := .active, fresh := true } else { v with state := .acquiring } := by
  induction t with
  | locked | hold | search | reacquire | off => rfl

theorem State.setVoice_activated (s : State) (i : Slot) (t : Tracking) (v : Voice) : s.setVoice i (activated t v) =
    if t = .locked ∨ t = .hold then s.setVoice i { v with state := .active, fresh := true } else s.setVoice i { v with state := .acquiring } :=
  (congrArg (s.setVoice i) (activated_eq t v)).trans (apply_ite (s.setVoice i) _ _ _)

theorem State.applyModify_level {i : Slot} (n : Nat) (hstate : s.voices[i].state ≠ .releasing) :
    s.applyModify i (.level n) = s.written i (.level n) := by
  generalize hv : s.voices[i].state = state at hstate
  rw [s.applyModify_of i _ hv]
  induction state with
  | releasing => exact absurd rfl hstate
  | free | pending | acquiring | active | holding => rfl

end

/-! ### RETIRE_LANE entries (R69) -/

theorem ownerPasses_iff (filter : OwnerFilter) (o : Owner) : ownerPasses filter o = true ↔
    filter = .all ∨ (filter = .control ∧ o = .control) ∨ (filter = .scene ∧ o = .scene) := by
  induction filter with
  | all => exact iff_of_true rfl (.inl rfl)
  | control => induction o with | control | scene => decide
  | scene => induction o with | control | scene => decide

/-- The voices that a RETIRE_LANE entry retires. -/
abbrev LanePasses (k : LaneId) (filter : OwnerFilter) (v : Voice) : Prop := v.template.lane = k ∧ v.state ≠ .free ∧
  (filter = .all ∨ (filter = .control ∧ v.owner = .control) ∨ (filter = .scene ∧ v.owner = .scene))

theorem agedWhere_passes (hpool : PoolLaw s) (k : LaneId) (filter : OwnerFilter) :
    (s.agedWhere fun v => v.template.lane = k && ownerPasses filter v.owner) = s.ageList.filter fun i => decide (LanePasses k filter s.voices[i]) :=
  List.filter_congr fun i hi => Bool.eq_iff_iff.2 ((Bool.and_eq_true_iff.trans (and_congr decide_eq_true_iff
    ((ownerPasses_iff filter _).trans (and_iff_right ((hpool.2.1 i).1 hi)).symm))).trans decide_eq_true_iff.symm)

theorem State.foldl_retire_kill {l : List Slot} (hnodup : l.Nodup) (hpresent : ∀ i ∈ l, s.voices[i].state ≠ .free) :
    l.foldl (fun s i => s.retire .kill i) s = l.foldl State.kill s := by
  induction l generalizing s with
  | nil => rfl
  | cons i l ih =>
    obtain ⟨hi, hrest⟩ := List.nodup_cons.1 hnodup
    have hkill : s.retire .kill i = s.kill i := if_neg (hpresent i List.mem_cons_self)
    refine (congrArg (l.foldl fun s i => s.retire .kill i) hkill).trans (ih hrest fun j hj => ?_)
    have hother : (s.kill i).voices[j] = s.voices[j] :=
      (State.freeVoice_get s i j).trans (if_neg fun hij : i = j => hi (hij ▸ hj))
    exact hother ▸ hpresent j (List.mem_cons_of_mem i hj)

/-- A voice that is retired in RELEASE mode (R67). -/
noncomputable def releasedVoice (v : Voice) : Voice :=
  match v.state with
  | .pending => .freeSlot v.generation
  | .free => v
  | .releasing => v
  | _ => { v with state := .releasing, levelTarget := 0 }

theorem releasedVoice_of {v : Voice} {state : VoiceState} : v.state = state → releasedVoice v = match state with
    | .pending => .freeSlot v.generation
    | .free => v
    | .releasing => v
    | _ => { v with state := .releasing, levelTarget := 0 } := by
  rintro rfl
  rfl

theorem releasedVoice_of_acts {v : Voice} (hpending : v.state ≠ .pending) (hfree : v.state ≠ .free)
    (hreleasing : v.state ≠ .releasing) : releasedVoice v = { v with state := .releasing, levelTarget := 0 } := by
  generalize hv : v.state = state at hpending hfree hreleasing
  rw [releasedVoice_of hv]
  induction state with
  | pending => exact absurd rfl hpending
  | free => exact absurd rfl hfree
  | releasing => exact absurd rfl hreleasing
  | acquiring | active | holding => rfl

theorem State.releaseVoice_voices (s : State) (i : Slot) :
    (s.releaseVoice i).voices = s.voices.set i (releasedVoice s.voices[i]) := by
  have hself {v : Voice} (hv : v = s.voices[i]) : s.voices = s.voices.set i v := hv ▸ (Vector.set_getElem_self _).symm
  generalize hstate : s.voices[i].state = state
  rw [s.releaseVoice_of i hstate, releasedVoice_of hstate]
  induction state with
  | free | releasing => exact hself rfl
  | pending | acquiring | active | holding => rfl

theorem acts_iff {state : VoiceState} (hpresent : state ≠ .free) : state ≠ .pending ↔ actsAtResults state = true := by
  induction state with
  | free => exact absurd rfl hpresent
  | pending | acquiring | active | holding | releasing => decide

theorem State.releaseVoice_get (s : State) (i j : Slot) :
    (s.releaseVoice i).voices[j] = if i = j then releasedVoice s.voices[j] else s.voices[j] :=
  ((congrArg (fun vs : Vector Voice 16 => vs[j]) (s.releaseVoice_voices i)).trans (s.setVoice_get i j _)).trans
    (ite_congr rfl (fun hij => hij ▸ rfl) fun _ => rfl)

section
variable {l : List Slot} (hnodup : l.Nodup)
include hnodup

theorem State.foldl_releaseVoice_get (s : State) (j : Slot) :
    (l.foldl State.releaseVoice s).voices[j] = if j ∈ l then releasedVoice s.voices[j] else s.voices[j] :=
  foldl_at (.inl hnodup) (g := fun s j => s.voices[j]) (F := fun _ => releasedVoice) State.releaseVoice_get s j

/-- A part of the state that a release changes for some of the slots alone. -/
theorem State.foldl_releaseVoice_filter {α : Type} {g : State → α} {f : α → Slot → α} {Q : Slot → Bool} (hpool : PoolLaw s)
    (hstep : ∀ (u : State) (i : Slot), PoolLaw u → u.voices[i] = s.voices[i] → i ∈ l → g (u.releaseVoice i) = if Q i then f (g u) i else g u) :
    g (l.foldl State.releaseVoice s) = (l.filter Q).foldl f (g s) := by
  rw [List.foldl_filter]
  suffices h : ∀ u, PoolLaw u → (∀ i ∈ l, u.voices[i] = s.voices[i]) →
      g (l.foldl State.releaseVoice u) = l.foldl (fun x i => if Q i then f x i else x) (g u) from h s hpool fun _ _ => rfl
  induction l with
  | nil => exact fun _ _ _ => rfl
  | cons i l ih =>
    obtain ⟨hi, hrest⟩ := List.nodup_cons.1 hnodup
    refine fun u hu hsame => (ih hrest (fun u j hu hj hmem => hstep u j hu hj (.tail i hmem)) _ (((Keeps.refl u).releaseVoice i).poolLaw hu)
      fun j hj => ?_).trans (congrArg (l.foldl _) (hstep u i hu (hsame i (.head l)) (.head l)))
    exact (u.releaseVoice_get i j).trans ((if_neg fun hij : i = j => hi (hij ▸ hj)).trans (hsame j (.tail i hj)))

theorem State.foldl_releaseVoice_releaseList (hpool : PoolLaw s) {P : Slot → Bool}
    (hP : ∀ i ∈ l, P i = true ↔ actsAtResults s.voices[i].state = true ∧ s.voices[i].state ≠ .releasing) :
    (l.foldl State.releaseVoice s).releaseList = s.releaseList ++ l.filter P := by
  refine (State.foldl_releaseVoice_filter hnodup (g := State.releaseList) (f := fun x i => x ++ [i]) (Q := P) hpool
    fun u i hu hsame hi => ?_).trans ((List.foldl_append_eq_append ..).trans (congrArg _ (List.flatMap_singleton' _)))
  have hP := hsame ▸ hP i hi
  refine State.releaseVoice_cases (P := fun t => t.releaseList = if P i then u.releaseList ++ [i] else u.releaseList)
    (fun hstate => (if_neg fun h => ?_).symm) (fun hpending => .trans (List.filter_eq_self.2 fun j hj => decide_eq_true ?_)
      (if_neg fun h => ?_).symm) fun hacts => (if_pos (hP.2 hacts)).symm
  · exact hstate.elim (fun hfree => Bool.false_ne_true ((congrArg actsAtResults hfree).symm.trans (hP.1 h).1)) (hP.1 h).2
  · exact fun hij => VoiceState.noConfusion ((hij ▸ hpending).symm.trans ((hu.2.2.2 j).1 hj))
  · exact Bool.false_ne_true ((congrArg actsAtResults hpending).symm.trans (hP.1 h).1)

end

/-- The voices that pass are killed in `killed` and released in `t`, and the others are as they were (R69). -/
noncomputable def LaneRetired (s killed t : State) (passes : Voice → Prop) [DecidablePred passes] : Prop :=
  (∀ i : Slot, ¬passes s.voices[i] → killed.voices[i] = s.voices[i] ∧ t.voices[i] = s.voices[i]) ∧
  (∀ i : Slot, passes s.voices[i] →
    killed.voices[i].state = .free ∧ killed.channels[i].state = .cutting ∧ i ∉ killed.ageList ∧ i ∉ killed.releaseList ∧
    (s.voices[i].state = .pending → t.voices[i].state = .free ∧ i ∉ t.ageList) ∧
    (s.voices[i].state = .releasing → t.voices[i] = s.voices[i]) ∧
    (s.voices[i].state ≠ .pending → s.voices[i].state ≠ .releasing →
      t.voices[i] = { s.voices[i] with state := .releasing, levelTarget := 0 })) ∧
  t.releaseList = s.releaseList ++ s.ageList.filter fun i => decide (passes s.voices[i]) &&
    decide (s.voices[i].state ≠ .pending) && decide (s.voices[i].state ≠ .releasing)

theorem releasedVoice_cases {v w : Voice} {gone : Prop} (hw : w = releasedVoice v) (hpresent : v.state ≠ .free) (hgone : w.state = .free → gone) :
    (v.state = .pending → w.state = .free ∧ gone) ∧ (v.state = .releasing → w = v) ∧
      (v.state ≠ .pending → v.state ≠ .releasing → w = { v with state := .releasing, levelTarget := 0 }) := by
  refine ⟨fun hpending => ?_, fun hreleasing => hw.trans (releasedVoice_of hreleasing),
    fun hpending hreleasing => hw.trans (releasedVoice_of_acts hpending hpresent hreleasing)⟩
  have hfree : w.state = .free := congrArg Voice.state (hw.trans (releasedVoice_of hpending))
  exact ⟨hfree, hgone hfree⟩

theorem laneRetired {killed t : State} {l : List Slot} {passes : Voice → Prop} [DecidablePred passes] (hpool : PoolLaw s)
    (hl : l = s.ageList.filter fun i => decide (passes s.voices[i])) (hpresent : ∀ v, passes v → v.state ≠ .free)
    (hkilled : l.foldl State.kill s = killed) (hreleased : l.foldl State.releaseVoice s = t) : LaneRetired s killed t passes := by
  have hmem (i : Slot) : i ∈ l ↔ passes s.voices[i] := hl ▸ List.mem_filter.trans ((and_congr (hpool.2.1 i) decide_eq_true_iff).trans
    (and_iff_right_of_imp (hpresent _)))
  have hnodup : l.Nodup := hl ▸ hpool.1.filter _
  have hlaw : PoolLaw t := hreleased ▸ (Keeps.foldl (fun _ i _ ht => ht.releaseVoice i) (Keeps.refl s)).poolLaw hpool
  have hvoice (i : Slot) : t.voices[i] = if i ∈ l then releasedVoice s.voices[i] else s.voices[i] :=
    hreleased ▸ State.foldl_releaseVoice_get hnodup s i
  refine ⟨fun i hi => ⟨hkilled ▸ (State.foldl_kill_get l s i).trans (if_neg (mt (hmem i).1 hi)), (hvoice i).trans (if_neg (mt (hmem i).1 hi))⟩,
    fun i hi => ?_, ?_⟩
  · have hkills := State.foldl_kill_killed hpool ((hmem i).2 hi) hkilled
    exact ⟨hkills.1, hkills.2.1, hkills.2.2.1, hkills.2.2.2, releasedVoice_cases ((hvoice i).trans (if_pos ((hmem i).2 hi))) (hpresent _ hi)
      fun hfree hi => (hlaw.2.1 i).1 hi hfree⟩
  · have hlist := State.foldl_releaseVoice_releaseList hnodup hpool
      (P := fun i => decide (s.voices[i].state ≠ .pending) && decide (s.voices[i].state ≠ .releasing)) fun i hi =>
        Bool.and_eq_true_iff.trans (and_congr (decide_eq_true_iff.trans (acts_iff (hpresent _ ((hmem i).1 hi)))) decide_eq_true_iff)
    exact (hreleased ▸ hlist).trans (congrArg (s.releaseList ++ ·) (hl ▸ List.filter_filter.trans
      (List.filter_congr fun _ _ => (Bool.and_comm ..).trans (Bool.and_assoc ..).symm)))

/-- Settles O39: each entry by the branch of the application that takes it; a RETIRE_LANE entry by what its retirements leave of
each voice. -/
theorem entriesApplied : Obligations.EntriesApplied := by
  refine ⟨fun s h => ?_, fun s k filter hpool => ?_⟩
  intro i v raised put field t
  refine ⟨fun hstale => ?_, fun hpresent hsame => ?_, fun _ => rfl⟩
  · have hstale := ne_true_of_eq_false (applyEntry_stale hstale)
    exact ⟨if_neg hstale, fun _ => if_neg hstale, fun _ => if_neg hstale⟩
  · have hcurrent : handleCurrent s h = true := both_of_and ⟨hpresent, hsame⟩
    refine ⟨fun hpending => (if_pos hcurrent).trans ((if_pos hpending).trans (s.setVoice_activated h.slot _ _)), fun _ _ => if_pos hcurrent,
      fun _ => if_pos hcurrent, fun _ => if_pos hcurrent, fun _ => if_pos hcurrent, fun _ _ => if_pos hcurrent,
      fun _ => if_pos hcurrent, fun _ => if_pos hcurrent, fun _ => if_pos hcurrent, fun _ => if_pos hcurrent,
      fun _ => if_pos hcurrent, fun n => ⟨fun hheld => (if_pos hcurrent).trans (State.applyModify_level n hheld),
        fun hreleasing => (if_pos hcurrent).trans (s.applyModify_of _ _ hreleasing)⟩, fun hacts => (if_pos hcurrent).trans ?_,
      fun hreleasing => (if_pos hcurrent).trans (s.releaseVoice_of _ hreleasing), .freeSlot s.voices[h.slot].generation, rfl, rfl,
      fun hpending => (if_pos hcurrent).trans (s.releaseVoice_of _ hpending), (if_pos hcurrent).trans (if_neg hpresent)⟩
    obtain hstate | hstate | hstate := hacts
    · exact s.releaseVoice_of _ hstate
    · exact s.releaseVoice_of _ hstate
    · exact s.releaseVoice_of _ hstate
  · have hl := agedWhere_passes hpool k filter
    exact laneRetired hpool hl (fun _ hv => hv.2.1) (State.foldl_retire_kill (l := s.agedWhere _) (hpool.1.filter _) fun i hi =>
      (hpool.2.1 i).1 (List.mem_filter.1 hi).1).symm rfl

end Sys2Proof.Machine
end

section
/-! PROOF. The voices of a lane act at its result (R14, R43, R51 to R57, R157). -/

namespace Sys2Proof.Machine

/-! ### The table of section 3.2.1 -/

section
variable {v : Voice} {c : VoiceContext} {st : VoiceState}

theorem actLocked_of : v.state = st → actLocked v c = match st with
    | .free => v
    | .pending => v
    | .acquiring => computeAndCapture { v with state := .active, fresh := true } v.template.level c
    | .active => computeAndCapture v v.template.level c
    | .holding => computeAndCapture { v with state := .active } v.template.level c
    | .releasing => finishRelease (computeAndCapture v 0 c) := by
  rintro rfl
  rfl

theorem actHold_of : v.state = st → actHold v c = match st with
    | .free => v
    | .pending => v
    | .acquiring => v
    | .active => computeAndCapture { v with state := .holding } v.template.level c
    | .holding => computeAndCapture v v.template.level c
    | .releasing => finishRelease (computeAndCapture v 0 c) := by
  rintro rfl
  rfl

theorem actReacquire_of : v.state = st → actReacquire v = match st with
    | .free => v
    | .pending => v
    | .acquiring => fadeAlone v
    | .active => fadeAlone { v with state := .holding }
    | .holding => fadeAlone v
    | .releasing => finishRelease (fadeAlone v) := by
  rintro rfl
  rfl

theorem actSearch_of : v.state = st → actSearch v = match st with
    | .free => v
    | .pending => v
    | .acquiring => { v with level := 0, levelTarget := 0 }
    | .active => toAcquiring v
    | .holding => toAcquiring v
    | .releasing => { v with state := .free } := by
  rintro rfl
  rfl

theorem voiceAct_of {t : Tracking} : c.tracking = t → voiceAct c v = match t with
    | .off => v
    | .search => actSearch v
    | .locked => actLocked v c
    | .hold => actHold v c
    | .reacquire => actReacquire v := by
  rintro rfl
  rfl

/-- A voice after its act, unless the act frees it. -/
noncomputable def unlessFreed (w : Voice) : Option Voice := if w.state = .free then none else some w

theorem unlessFreed_of {w : Voice} (heq : voiceAct c v = w) (hw : w.state ≠ .free) : unlessFreed (voiceAct c v) = some w :=
  heq ▸ (if_neg hw : unlessFreed w = some w)

theorem unlessFreed_gone {w : Voice} (heq : voiceAct c v = w) (hw : w.state = .free) : unlessFreed (voiceAct c v) = none :=
  heq ▸ (if_pos hw : unlessFreed w = none)

theorem unlessFreed_computed {u : Voice} {n : Nat} (heq : voiceAct c v = computeAndCapture u n c) (hu : u.state ≠ .free) :
    unlessFreed (voiceAct c v) = some (computeAndCapture u n c) :=
  unlessFreed_of heq (ne_of_eq_of_ne (computeAndCapture_frame u n c).1 hu)

theorem unlessFreed_finished {u : Voice} (heq : voiceAct c v = finishRelease u) (hu : u.state = .releasing) :
    unlessFreed (voiceAct c v) = if u.level = 0 then none else some u := by
  by_cases hlevel : u.level = 0
  · exact (congrArg unlessFreed (heq.trans (if_pos ⟨hu, hlevel⟩))).trans (if_pos hlevel).symm
  · exact (unlessFreed_of (heq.trans (if_neg fun hboth => hlevel hboth.2)) (ne_of_eq_of_ne hu (by decide))).trans (if_neg hlevel).symm

theorem computeAndCapture_eq {n : Nat} {w : Voice} : compute { v with levelTarget := n } c = w → computeAndCapture v n c =
    { w with frozen := if c.freeze = true ∧ w.frozen = none then some w.nt else w.frozen } := by
  rintro rfl
  exact Eq.symm (apply_ite (fun frozen => { compute { v with levelTarget := n } c with frozen := frozen }) _ _ _)

theorem levelStep_zero (level attack release : Nat) : levelStep level 0 attack release = level - 16 * release := by
  obtain rfl | hlevel := Nat.eq_zero_or_pos level
  · exact (Nat.zero_sub _).symm
  · exact (if_neg (Nat.not_lt_zero level)).trans ((if_pos hlevel).trans (Nat.zero_max _))

theorem fadeAlone_eq (v : Voice) : fadeAlone v = { v with levelTarget := 0, level := v.level - 16 * v.template.release } :=
  congrArg (fun n => { v with levelTarget := 0, level := n }) (levelStep_zero v.level v.template.attack v.template.release)

end

/-! ### What a slot's act leaves of the slot -/

/-- A slot's record and channel, and whether the lists hold it. -/
noncomputable def slotView (s : State) (j : Slot) : Voice × Channel × Prop × Prop :=
  (s.voices[j], s.channels[j], j ∈ s.ageList, j ∈ s.releaseList)

/-- What a slot's act makes of the slot (R51, R157). -/
noncomputable def actedView (k : LaneId) (c : VoiceContext) (x : Voice × Channel × Prop × Prop) : Voice × Channel × Prop × Prop :=
  if (x.1.template.lane = k && actsAtResults x.1.state) = true then
    if (voiceAct c x.1).state = .free then (.freeSlot x.1.generation, { x.2.1 with nextGain := 0 }, False, False)
    else (voiceAct c x.1, handOver (voiceAct c x.1) x.2.1, x.2.2)
  else x

theorem slotView_eq {t : State} {j : Slot} {v : Voice} {ch : Channel} {a r : Prop} : t.voices[j] = v → t.channels[j] = ch →
    (j ∈ t.ageList ↔ a) → (j ∈ t.releaseList ↔ r) → slotView t j = (v, ch, a, r) := by
  rintro rfl rfl ha hr
  rw [← propext ha, ← propext hr]
  rfl

theorem actSlot_view (k : LaneId) (c : VoiceContext) (s : State) (i j : Slot) :
    slotView (State.actSlot k c s i) j = if i = j then actedView k c (slotView s j) else slotView s j := by
  by_cases hij : i = j
  · subst hij
    have gone {l : List Slot} : i ∈ l.filter (· ≠ i) ↔ False := iff_of_false (fun h => of_decide_eq_true (List.mem_filter.1 h).2 rfl) id
    refine (apply_ite (slotView · i) _ _ _).trans (.trans (ite_congr rfl (fun _ => (apply_ite (slotView · i) _ _ _).trans
      (ite_congr rfl (fun _ => ?_) fun _ => ?_)) fun _ => rfl) (if_pos rfl).symm)
    · exact slotView_eq (Vector.getElem_set_self _) (Vector.getElem_set_self _) gone gone
    · exact slotView_eq (Vector.getElem_set_self _) (Vector.getElem_set_self _) .rfl .rfl
  · have stays {l : List Slot} : j ∈ l.filter (· ≠ i) ↔ j ∈ l :=
      List.mem_filter.trans (and_iff_left (decide_eq_true (Ne.symm hij)))
    have untouched {b : Prop} [Decidable b] {u u' : State} := iteInduction (c := b) (t := u) (e := u') (motive := fun t => slotView t j = slotView s j)
    refine .trans (untouched (fun _ => untouched (fun _ => ?_) fun _ => ?_) fun _ => rfl) (if_neg hij).symm
    · exact slotView_eq ((s.freeVoice_get i j).trans (if_neg hij)) ((s.setChannel_get i j _).trans (if_neg hij)) stays stays
    · exact slotView_eq ((s.setVoice_get i j _).trans (if_neg hij)) ((s.setChannel_get i j _).trans (if_neg hij)) .rfl .rfl

/-! ### VOICE_FREED -/

noncomputable def freedCount (s : State) : Nat := s.notices[(6 : Fin 17)].count

theorem State.raise_freedCount (s : State) (i : Slot) : freedCount (s.raise .voiceFreed i) = min 255 (freedCount s + 1) :=
  congrArg Notice.count ((State.raise_get s .voiceFreed i 6).trans (if_pos rfl))

theorem State.foldl_raise_freedCount (l : List Slot) (last : Slot) (s : State) :
    freedCount ((l ++ [last]).foldl (fun s (i : Slot) => s.raise .voiceFreed i) s) = min 255 (freedCount s + (l.length + 1)) := by
  induction l generalizing s with
  | nil => exact State.raise_freedCount s last
  | cons i l ih =>
    refine (ih (s.raise .voiceFreed i)).trans ?_
    rw [State.raise_freedCount, ← Nat.add_min_add_right, ← min_assoc, min_eq_left (Nat.le_add_right _ _), Nat.add_right_comm, Nat.add_assoc]
    rfl

/-- VOICE_FREED is raised once for each slot, whichever comes last. -/
theorem State.raiseFreed_freedCount (s : State) {slots : List Slot} (hnodup : slots.Nodup) :
    freedCount (s.raiseFreed slots) = if slots = [] then freedCount s else min 255 (freedCount s + slots.length) := by
  have hlength {last : Slot} (hlast : last ∈ slots) : (slots.filter (· ≠ last)).length + 1 = slots.length :=
    (congrArg (·.length + 1) ((List.filter_congr fun i _ => decide_not (p := i = last)).trans (hnodup.erase_eq_filter last).symm)).trans
      (List.length_erase_add_one hlast)
  induction slots with
  | nil => rfl
  | cons i l =>
    refine .trans ?_ (if_neg (List.cons_ne_nil i l)).symm
    induction l with
    | nil => exact State.raise_freedCount s i
    | cons i' l =>
      have hin {n : Nat} (hn : n < (i :: i' :: l).length) : (i :: i' :: l).getD n 0 ∈ i :: i' :: l :=
        List.getD_eq_getElem _ 0 hn ▸ List.getElem_mem hn
      exact (State.foldl_raise_freedCount _ _ { s with choiceNo := s.choiceNo + 1 }).trans
        (congrArg (fun n => min 255 (freedCount s + n)) (hlength (hin (Nat.mod_lt _ (Nat.zero_lt_succ (l.length + 1))))))

/-! ### The voices' acts -/

/-- What the voices of a lane touch at its result. -/
abbrev VoiceParts := ((Slot → Voice × Channel × Prop × Prop) × List Slot × List Slot) × Nat

noncomputable def voiceParts (s : State) : VoiceParts := ((slotView s, s.ageList, s.releaseList), freedCount s)

noncomputable def freedIn (k : LaneId) (c : VoiceContext) (p : VoiceParts) : List Slot := (List.finRange 16).filter fun i =>
  ((p.1.1 i).1.template.lane = k && actsAtResults (p.1.1 i).1.state) && (voiceAct c (p.1.1 i).1).state = .free

/-- The parts `q` are what the voices of lane `k` make of `p`. -/
noncomputable def VoicesActed (k : LaneId) (c : VoiceContext) (p q : VoiceParts) : Prop :=
  (∀ j, q.1.1 j = actedView k c (p.1.1 j)) ∧ (q.1.2.1.Sublist p.1.2.1 ∧ q.1.2.2.Sublist p.1.2.2) ∧
  q.2 = if freedIn k c p = [] then p.2 else min 255 (p.2 + (freedIn k c p).length)

/-- The lists lose slots alone, and no notice is raised. -/
noncomputable def ListsKept (s t : State) : Prop :=
  (t.ageList.Sublist s.ageList ∧ t.releaseList.Sublist s.releaseList) ∧ freedCount t = freedCount s

theorem ListsKept.actSlot {s t : State} (h : ListsKept s t) (k : LaneId) (c : VoiceContext) (i : Slot) :
    ListsKept s (State.actSlot k c t i) := by
  have kept {b : Prop} [Decidable b] {u u' : State} := iteInduction (c := b) (t := u) (e := u') (motive := ListsKept s)
  exact kept (fun _ => kept (fun _ => ⟨⟨List.filter_sublist.trans h.1.1, List.filter_sublist.trans h.1.2⟩, h.2⟩) fun _ => h) fun _ => h

theorem State.actVoices_acted (s : State) (k : LaneId) :
    VoicesActed k (contextOf s k) (voiceParts s) (voiceParts (s.actVoices k)) := by
  unfold State.actVoices
  generalize contextOf s k = c
  have hview (j : Slot) := (foldl_at (.inl (List.nodup_finRange 16)) (F := fun _ => actedView k c) (actSlot_view k c) s j).trans
    (if_pos (List.mem_finRange j))
  have hlists := List.foldlRecOn (List.finRange 16) (State.actSlot k c) (motive := ListsKept s) ⟨⟨.refl _, .refl _⟩, rfl⟩
    fun t ht i _ => ht.actSlot k c i
  generalize (List.finRange 16).foldl (State.actSlot k c) s = t at hview hlists
  have hraises := State.raiseFreed_freedCount t (slots := freedBy k c s) ((List.nodup_finRange 16).filter _)
  obtain ⟨ns, n, hframe⟩ := State.raiseFreed_frame t (freedBy k c s)
  rw [hlists.2, hframe] at hraises
  rw [hframe]
  exact ⟨hview, hlists.1, hraises⟩

section
variable {s t : State} {k : LaneId} {r : LaneResult}

/-- What the voices know of the lane's result. -/
noncomputable def resultContext (s t : State) (k : LaneId) : VoiceContext :=
  { tracking := t.lanes[k].tracking, p := t.lanes[k].p, n := t.lanes[k].n, d := t.lanes[k].d,
    freeze := s.lanes[k].settings.freeze, keyMap := s.keyMap, chordSet := chordPitchSet s.chord }

theorem State.raiseLaneEvents_parts (s : State) (k : LaneId) (e : LaneEvents) : voiceParts (s.raiseLaneEvents k e) = voiceParts s :=
  congrArg₂ Prod.mk (congrArg (fun u => (slotView u, u.ageList, u.releaseList)) (State.raiseLaneEvents_frame s k e) :)
    (congrArg Notice.count (State.raiseLaneEvents_get s k e 6))

theorem State.noteArrival_parts (s : State) (k : LaneId) (arrival : Option Int) : voiceParts (s.noteArrival k arrival) = voiceParts s :=
  congrArg₂ Prod.mk (congrArg (fun u => (slotView u, u.ageList, u.releaseList)) (State.noteArrival_frame s k arrival) :)
    (congrArg Notice.count (State.noteArrival_get s k arrival (j := 6) (by decide)))

theorem State.laneResult_context (hon : s.lanes[k].settings.on = true) :
    contextOf ((s.setLane k (takenResult s k r).1).raiseLaneEvents k (takenResult s k r).2) k = resultContext s (s.laneResult k r) k := by
  have hsettings : (takenResult s k r).1.settings = s.lanes[k].settings := congrArg Prod.fst (takeResult_setUp _ r _)
  rw [State.raiseLaneEvents_frame, resultContext, State.laneResult_lane s k r hon, ← hsettings]
  exact congrArg (fun l : Lane => { contextOf s k with tracking := l.tracking, p := l.p, n := l.n, d := l.d, freeze := l.settings.freeze })
    (Vector.getElem_set_self _)

theorem State.laneResult_acted (hon : s.lanes[k].settings.on = true) (ht : s.laneResult k r = t) :
    VoicesActed k (resultContext s t k) (voiceParts s) (voiceParts t) := by
  obtain rfl := ht
  have hacted := State.actVoices_acted ((s.setLane k (takenResult s k r).1).raiseLaneEvents k (takenResult s k r).2) k
  rw [State.raiseLaneEvents_parts, State.laneResult_context hon] at hacted
  exact (congrArg voiceParts (State.laneResult_on s k r hon)).trans (State.noteArrival_parts _ _ _) ▸ hacted

theorem TrackingLegal.ne_off {l : Lane} (h : TrackingLegal l) (hon : l.settings.on = true) : l.tracking ≠ .off :=
  fun hoff => Bool.noConfusion (hon.symm.trans (h.1.1 hoff))

/-- A lane that is ON has left OFF mode (section 1.3). -/
theorem State.laneResult_tracking (hon : s.lanes[k].settings.on = true) (ht : s.laneResult k r = t) (hoff : s.lanes[k].tracking ≠ .off) :
    t.lanes[k].tracking ≠ .off := by
  obtain rfl := ht
  rw [State.laneResult_lane s k r hon]
  exact (takeResult_pitchWithin (l := { s.lanes[k] with due := false }) hoff r s.keyMap.ref).1

end

/-! ### What an acting slot becomes -/

section
variable {s t : State} {k : LaneId} {c : VoiceContext} {i : Slot}

/-- Slot `i` holds a voice that acts at a result of lane `k`. -/
def SlotActs (s : State) (k : LaneId) (i : Slot) : Prop :=
  s.voices[i].template.lane = k ∧ s.voices[i].state ≠ .free ∧ s.voices[i].state ≠ .pending

theorem actsFor_iff : actsFor s k i = true ↔ SlotActs s k i := by
  unfold actsFor actsAtResults
  rw [Bool.and_eq_true, Bool.and_eq_true]
  exact and_congr decide_eq_true_iff (and_congr decide_eq_true_iff decide_eq_true_iff)

theorem unlessFreed_eq_some {w v : Voice} : unlessFreed w = some v ↔ w.state ≠ .free ∧ w = v :=
  Option.ite_none_left_eq_some.trans (and_congr_right' (Option.some.injEq w v ▸ .rfl))

theorem unlessFreed_isNone {w : Voice} : (unlessFreed w).isNone = true ↔ w.state = .free := by
  rw [unlessFreed]
  by_cases h : w.state = .free
  · rw [if_pos h]
    exact iff_of_true rfl h
  · rw [if_neg h]
    exact iff_of_false Bool.noConfusion h

theorem slotView_of_idle (hview : slotView t i = actedView k c (slotView s i)) (hidle : ¬SlotActs s k i) : slotView t i = slotView s i :=
  hview.trans (if_neg (mt actsFor_iff.1 hidle))

theorem slotView_of_kept (hview : slotView t i = actedView k c (slotView s i)) (hacts : SlotActs s k i) {v : Voice}
    (hv : unlessFreed (voiceAct c s.voices[i]) = some v) : slotView t i = (v, { s.channels[i] with
      nextLane := k, nextGain := if v.state = .acquiring then 0 else v.level, nextRatio := v.ratio, nextPan := v.template.pan },
      i ∈ s.ageList, i ∈ s.releaseList) := by
  obtain ⟨hstate, rfl⟩ := unlessFreed_eq_some.1 hv
  have hlane : (voiceAct c s.voices[i]).template.lane = k := (congrArg Template.lane (voiceAct_keeps c _).template).trans hacts.1
  refine (hview.trans ((if_pos (actsFor_iff.2 hacts)).trans (if_neg hstate))).trans ?_
  rw [← hlane]
  rfl

theorem slotView_of_freed (hview : slotView t i = actedView k c (slotView s i)) (hacts : SlotActs s k i)
    (hv : (unlessFreed (voiceAct c s.voices[i])).isNone = true) :
    slotView t i = (.freeSlot s.voices[i].generation, { s.channels[i] with nextGain := 0 }, False, False) :=
  hview.trans ((if_pos (actsFor_iff.2 hacts)).trans (if_pos (unlessFreed_isNone.1 hv)))

end

theorem and_eq_true_iff {a b : Bool} {p q : Prop} (ha : a = true ↔ p) (hb : p → (b = true ↔ q)) : (a && b) = true ↔ p ∧ q :=
  ((Bool.and_eq_true a b).to_iff.trans (and_congr_left' ha)).trans (and_congr_right hb)

/-- A count raised for each of the slots that `b` holds of, said of the slots that act and are gone. -/
theorem count_of_filter {acts : Slot → Prop} {inst : DecidablePred acts} {gone b : Slot → Bool} {inst' : Decidable (∃ i, acts i ∧ gone i = true)}
    (hb : ∀ i, b i = true ↔ acts i ∧ gone i = true) {m n : Nat}
    (h : m = if (List.finRange 16).filter b = [] then n else min 255 (n + ((List.finRange 16).filter b).length)) :
    m = if ∃ i, acts i ∧ gone i = true then min 255 (n + ((List.finRange 16).filter fun i => decide (acts i) && gone i).length) else n := by
  obtain rfl : b = fun i => decide (acts i) && gone i :=
    funext fun i => Bool.eq_iff_iff.2 ((hb i).trans (by rw [Bool.and_eq_true, decide_eq_true_iff]))
  refine (h.trans (ite_not _ _ _).symm).trans (if_congr ?_ rfl rfl)
  rw [List.filter_eq_nil_iff, not_forall]
  exact exists_congr fun i => (Classical.not_imp.trans (and_iff_right (List.mem_finRange i))).trans (not_not.trans (hb i))

/-- Settles O37: the table row by row, then what the acting voices leave of every slot. -/
theorem voicesActAtLaneResult : Obligations.VoicesActAtLaneResult := by
  intro s t k r hreset hclock hdue hon htrack hexec c runs fades silent completes outcome acts freed
  have ht : s.laneResult k r = t :=
    Host.Outcome.next.inj ((congrArg Host.Outcome.next (if_pos (resultDue_of s k hreset hclock hdue))).symm.trans hexec)
  have htracking : c.tracking ≠ .off :=
    State.laneResult_tracking hon ht (htrack.ne_off hon)
  have hparts : VoicesActed k c (voiceParts s) (voiceParts t) := State.laneResult_acted hon ht
  have htable (v : Voice) : v.state ≠ .free ∧ v.state ≠ .pending → unlessFreed (voiceAct c v) = outcome v := by
    rintro ⟨hpresent, hpending⟩
    have hfree := hpresent
    have hruns {u : Voice} {n : Nat} (heq : voiceAct c v = computeAndCapture u n c) (hu : u.state ≠ .free) :
        unlessFreed (voiceAct c v) = some (runs n u) := (unlessFreed_computed heq hu).trans (congrArg some (computeAndCapture_eq rfl))
    have hcompletes {u w : Voice} (hw : u = w) (hu : u.state = .releasing) (heq : voiceAct c v = finishRelease u) :
        unlessFreed (voiceAct c v) = completes w := hw ▸ unlessFreed_finished heq hu
    have hcomputed (hst : v.state = .releasing) : (computeAndCapture v 0 c).state = .releasing :=
      (computeAndCapture_frame v 0 c).1.trans hst
    have hfades (u : Voice) : fadeAlone u = fades u := fadeAlone_eq u
    dsimp only [outcome]
    generalize htr : c.tracking = tr at htracking
    generalize hst : v.state = st at hfree hpending
    have hact := voiceAct_of (v := v) htr
    induction tr with
    | off => exact absurd rfl htracking
    | search =>
      induction st with
      | free => exact absurd rfl hfree
      | pending => exact absurd rfl hpending
      | acquiring => exact unlessFreed_of (hact.trans (actSearch_of hst)) hpresent
      | active => exact unlessFreed_of (hact.trans (actSearch_of hst)) VoiceState.noConfusion
      | holding => exact unlessFreed_of (hact.trans (actSearch_of hst)) VoiceState.noConfusion
      | releasing => exact unlessFreed_gone (w := { v with state := .free }) (hact.trans (actSearch_of hst)) rfl
    | locked =>
      induction st with
      | free => exact absurd rfl hfree
      | pending => exact absurd rfl hpending
      | acquiring => exact hruns (hact.trans (actLocked_of hst)) VoiceState.noConfusion
      | active => exact hruns (hact.trans (actLocked_of hst)) hpresent
      | holding => exact hruns (hact.trans (actLocked_of hst)) VoiceState.noConfusion
      | releasing => exact hcompletes (computeAndCapture_eq rfl) (hcomputed hst) (hact.trans (actLocked_of hst))
    | hold =>
      induction st with
      | free => exact absurd rfl hfree
      | pending => exact absurd rfl hpending
      | acquiring => exact unlessFreed_of (hact.trans (actHold_of hst)) hpresent
      | active => exact hruns (hact.trans (actHold_of hst)) VoiceState.noConfusion
      | holding => exact hruns (hact.trans (actHold_of hst)) hpresent
      | releasing => exact hcompletes (computeAndCapture_eq rfl) (hcomputed hst) (hact.trans (actHold_of hst))
    | reacquire =>
      induction st with
      | free => exact absurd rfl hfree
      | pending => exact absurd rfl hpending
      | acquiring => exact unlessFreed_of (hact.trans ((actReacquire_of hst).trans (hfades v))) hpresent
      | active => exact unlessFreed_of (hact.trans ((actReacquire_of hst).trans (hfades _))) VoiceState.noConfusion
      | holding => exact unlessFreed_of (hact.trans ((actReacquire_of hst).trans (hfades v))) hpresent
      | releasing => exact hcompletes (hfades v) hst (hact.trans (actReacquire_of hst))
  have hacting {i : Slot} (h : acts i) : unlessFreed (voiceAct c s.voices[i]) = outcome s.voices[i] := htable _ h.2
  have hfreed (i : Slot) : (actsFor s k i && decide ((voiceAct c s.voices[i]).state = .free)) = true ↔ freed i :=
    and_eq_true_iff actsFor_iff fun h => (decide_eq_true_iff.trans unlessFreed_isNone.symm).trans (hacting h ▸ .rfl)
  refine ⟨htracking, fun i h => ?_, fun i h v hv => ?_, fun i h => ?_, fun i h => ?_, hparts.2.1.1, hparts.2.1.2, ?_⟩
  · have hsame := slotView_of_idle (hparts.1 i) h
    exact ⟨congrArg (fun x => x.1) hsame, congrArg (fun x => x.2.1) hsame⟩
  · have hkept := slotView_of_kept (hparts.1 i) h ((hacting h).trans hv)
    exact ⟨congrArg (fun x => x.1) hkept, congrArg (fun x => x.2.1) hkept⟩
  · have hgone := slotView_of_freed (hparts.1 i) h.1 ((hacting h.1).symm ▸ h.2)
    exact ⟨congrArg (fun x => x.1.state) hgone, congrArg (fun x => x.1.generation) hgone, congrArg (fun x => x.2.1) hgone,
      of_eq_false (congrArg (fun x => x.2.2.1) hgone), of_eq_false (congrArg (fun x => x.2.2.2) hgone)⟩
  · have hlists : (slotView t i).2.2 = (slotView s i).2.2 := by
      by_cases hacts : acts i
      · obtain ⟨v, hv⟩ := Option.ne_none_iff_exists'.1 fun hnone => h ⟨hacts, Option.isNone_iff_eq_none.2 hnone⟩
        exact congrArg (fun x => x.2.2) (slotView_of_kept (hparts.1 i) hacts ((hacting hacts).trans hv))
      · exact congrArg (fun x => x.2.2) (slotView_of_idle (hparts.1 i) hacts)
    exact ⟨iff_of_eq (congrArg Prod.fst hlists), iff_of_eq (congrArg Prod.snd hlists)⟩
  · exact count_of_filter hfreed hparts.2.2

end Sys2Proof.Machine
end

section
/-! PROOF. A TAKE entry applied: its six steps (R49, R50, R83, R115 to R119). -/

namespace Sys2Proof.Machine

variable {s : State}

/-! ### What the steps leave as it was -/

/-- A state without what a LANE_SETTINGS change touches. -/
noncomputable def State.unlaned (s : State) : State :=
  { s.unpooled with lanes := State.reset.lanes, mixers := State.reset.mixers }

theorem State.takeLanes_unlaned (s : State) (lanes : Vector SceneLane 4) : (s.takeLanes lanes).unlaned = s.unlaned :=
  foldl_unchanged (g := State.unlaned) (fun s _ => (congrArg State.unlaned (State.applySettings_frame (s := s) rfl rfl rfl) :)) _ s

/-! ### The outgoing voices (R117) -/

/-- The voices that a take retires (R117). -/
abbrev Outgoing (m : State) (mode : TakeMode) (i : Slot) : Prop :=
  m.voices[i].state ≠ .free ∧ m.voices[i].state ≠ .releasing ∧ (m.voices[i].owner = .scene ∨ mode = .clearAll)

theorem takeRetires_iff (mode : TakeMode) (i : Slot) : takeRetires mode s.voices[i] = true ↔ Outgoing s mode i := by
  have hboth (v : Voice) : takeRetires mode v = true ↔ ((v.owner = .scene ∨ mode = .clearAll) ∧ v.state ≠ .free) ∧ v.state ≠ .releasing :=
    Bool.and_eq_true_iff.trans (and_congr (Bool.and_eq_true_iff.trans (and_congr
      (Bool.or_eq_true_iff.trans (or_congr decide_eq_true_iff decide_eq_true_iff)) decide_eq_true_iff)) decide_eq_true_iff)
  exact (hboth _).trans ⟨fun h => ⟨h.1.2, h.2, h.1.1⟩, fun h => ⟨⟨h.2.2, h.1⟩, h.2.1⟩⟩

/-- The slots that a take retires. -/
theorem mem_outgoing_iff (hpool : PoolLaw s) {mode : TakeMode} (i : Slot) : i ∈ s.agedWhere (takeRetires mode) ↔ Outgoing s mode i :=
  List.mem_filter.trans ((and_congr (hpool.2.1 i) (takeRetires_iff mode i)).trans and_self_left)

/-- A part of the state that a retire of a PENDING voice alone changes. -/
theorem State.foldl_releaseVoice_freed {l : List Slot} (hnodup : l.Nodup) (hpool : PoolLaw s) {α : Type} {g : State → α}
    {f : α → Slot → α} {Q : Slot → Bool} (hQ : ∀ i ∈ l, Q i = true ↔ s.voices[i].state = .pending)
    (hfreed : ∀ (u : State) (i : Slot), g ((u.freeVoice i).raise .voiceFreed i) = f (g u) i)
    (hreleased : ∀ (u : State) (i : Slot), g (u.toReleasing i) = g u) : g (l.foldl State.releaseVoice s) = (l.filter Q).foldl f (g s) :=
  State.foldl_releaseVoice_filter hnodup hpool fun u i _ hsame hi => by
    have hQ := hsame ▸ hQ i hi
    refine State.releaseVoice_cases (P := fun t => g t = if Q i then f (g u) i else g u) (fun hstate => (if_neg fun h => ?_).symm)
      (fun hpending => (hfreed u i).trans (if_pos (hQ.2 hpending)).symm) fun hacts => (hreleased u i).trans (if_neg fun h => ?_).symm
    · exact hstate.elim (ne_of_eq_of_ne (hQ.1 h) VoiceState.noConfusion) (ne_of_eq_of_ne (hQ.1 h) VoiceState.noConfusion)
    · exact (present_of_acts hacts.1).2 (hQ.1 h)

theorem agedWhere_outgoing (s : State) (mode : TakeMode) : s.agedWhere (takeRetires mode) = s.ageList.filter fun i => decide (Outgoing s mode i) :=
  List.filter_congr fun _ _ => Bool.eq_iff_iff.2 ((takeRetires_iff mode _).trans decide_eq_true_iff.symm)

/-! ### The templates (R49, R83) -/

/-- Every PENDING voice is as it was. -/
noncomputable def PendingKept (s u : State) : Prop := ∀ j : Slot, s.voices[j].state = .pending → u.voices[j] = s.voices[j]

theorem PendingKept.trans {u v : State} (h : PendingKept s u) (h' : PendingKept u v) : PendingKept s v := fun j hj =>
  (h' j ((congrArg Voice.state (h j hj)).trans hj)).trans (h j hj)

theorem setVoice_pendingKept {i : Slot} (h : s.voices[i].state ≠ .pending) (v : Voice) : PendingKept s (s.setVoice i v) :=
  forall_setVoice (P := fun j w => s.voices[j].state = .pending → w = s.voices[j]) (fun hi => absurd hi h) fun _ _ _ => rfl

theorem clearTag_pendingKept {t : Template} {u : State} (h : clearTag s t = some u) : PendingKept s u :=
  (clearTag_cases h).elim (fun h => h.2 ▸ fun _ _ => rfl) (Exists.elim · fun _ hi =>
    hi.2.2 ▸ setVoice_pendingKept (ne_of_eq_of_ne hi.2.1 VoiceState.noConfusion) _)

/-- The arbiter takes no PENDING voice's slot (R79). -/
theorem obtainSlot_pendingKept (hpool : PoolLaw s) {i : Slot} {u : State} (h : obtainSlot s = some (i, u)) : PendingKept s u :=
  (obtainSlot_some h).elim (fun h => h.2 ▸ fun _ _ => rfl) fun h => h.2 ▸ setVoice_pendingKept ((victim_spec h.1).2.elim
    (fun hrelease => ne_of_eq_of_ne ((hpool.2.2.2 i).1 hrelease) VoiceState.noConfusion) And.right) _

theorem placedState_pendingKept (hpool : PoolLaw s) (t : Template) : PendingKept s (placedState s t) :=
  placeTemplate_cases (P := fun f => PendingKept s (f [] 0).state) (fun _ _ _ => rfl) (fun _ hclear _ => clearTag_pendingKept hclear)
    fun _ _ _ hclear hslot => ((clearTag_pendingKept hclear).trans
      (obtainSlot_pendingKept (((Keeps.refl s).clearTag hclear).poolLaw hpool) hslot)).trans
        (setVoice_pendingKept (ne_of_eq_of_ne (obtainSlot_free hslot).1 VoiceState.noConfusion) _)

/-- A voice that a template of a take has placed. -/
noncomputable def Placed (t : Template) (v : Voice) : Prop := v.template = t ∧ v.owner = .scene ∧ v.state = .pending

theorem placedState_placed {t : Template} {i : Slot} : placedSlot s t = some i → Placed t (placedState s t).voices[i] := by
  refine placeTemplate_cases (P := fun f => (f [] 0).placed.head? = some i → Placed t (f [] 0).state.voices[i])
    (fun _ h => absurd h.symm (Option.some_ne_none i)) (fun _ _ _ h => absurd h.symm (Option.some_ne_none i)) fun u i' v _ _ h => ?_
  exact (v.allocate_get i' i .scene t).trans (if_pos (Option.some.inj h)) ▸ ⟨rfl, rfl, rfl⟩

theorem foldl_placedState_pendingKept {l : List Template} (hpool : PoolLaw s)
    (legal : ∀ t ∈ l, TemplateLegal t ∧ s.lanes[t.lane].settings.on = true) : PendingKept s (l.foldl placedState s) := by
  induction l generalizing s with
  | nil => exact fun _ _ => rfl
  | cons t l ih =>
    refine (placedState_pendingKept hpool t).trans
      (ih (((Keeps.refl s).placedState t fun _ => legal t (.head l)).poolLaw hpool) fun x hx => ?_)
    exact (lanes_of_unpooled (placedState_unpooled s t)).symm ▸ legal x (.tail t hx)

theorem length_placedSlots (ts : List Template) (s : State) : (placedSlots ts s).length = ts.length := by
  induction ts generalizing s with
  | nil => rfl
  | cons t ts ih => exact congrArg (· + 1) (ih _)

/-- The state after the first `j` templates. -/
noncomputable def placedAfter (s : State) (ts : List Template) (j : Nat) : State := (ts.take j).foldl placedState s

theorem placedAfter_succ {ts : List Template} {j : Nat} (h : j < ts.length) (s : State) :
    placedAfter s ts (j + 1) = placedState (placedAfter s ts j) ts[j] := by
  rw [placedAfter, List.take_succ_eq_append_getElem h, List.foldl_append]
  rfl

theorem placedSlots_getElem? {ts : List Template} {j : Nat} (h : j < ts.length) (s : State) :
    (placedSlots ts s)[j]? = some (placedSlot (placedAfter s ts j) ts[j]) := by
  induction ts generalizing s j with
  | nil => exact absurd h (Nat.not_lt_zero j)
  | cons t ts ih =>
    induction j with
    | zero => rfl
    | succ j => exact ih (Nat.lt_of_succ_lt_succ h) _

/-! ### The activations and the notices (R50, R118, R119) -/

theorem activated_state_ne (t : Tracking) (v : Voice) : (activated t v).state ≠ .pending := by
  induction t with
  | locked | hold | search | reacquire | off => exact VoiceState.noConfusion

/-- A lane's voice, told to activate. -/
noncomputable def activatedView (x : Vector Lane 4 × Voice) : Vector Lane 4 × Voice :=
  (x.1, if x.2.state = .pending then activated x.1[x.2.template.lane].tracking x.2 else x.2)

theorem activatedView_twice (x : Vector Lane 4 × Voice) : activatedView (activatedView x) = activatedView x :=
  congrArg (Prod.mk x.1) (if_neg (iteInduction (motive := fun v : Voice => v.state ≠ .pending)
    (fun _ => activated_state_ne _ _) id))

theorem State.activate_view (s : State) (i j : Slot) : ((s.activate i).lanes, (s.activate i).voices[j]) =
    if i = j then activatedView (s.lanes, s.voices[j]) else (s.lanes, s.voices[j]) := by
  refine (apply_ite (fun t : State => (t.lanes, t.voices[j])) _ _ _).trans ?_
  by_cases hij : i = j
  · subst hij
    exact (ite_congr rfl (fun _ => congrArg (Prod.mk s.lanes) (Vector.getElem_set_self _)) fun _ => rfl).trans
      ((apply_ite (Prod.mk s.lanes) _ _ _).symm.trans (if_pos rfl).symm)
  · exact (ite_congr rfl (fun _ => congrArg (Prod.mk s.lanes) ((s.setVoice_get i j _).trans (if_neg hij))) fun _ => rfl).trans
      ((ite_self _).trans (if_neg hij).symm)

noncomputable def State.withVoices (s : State) (vs : Vector Voice 16) : State := { s with voices := vs }

noncomputable def State.withNotices (s : State) (ns : Vector Notice 17) : State := { s with notices := ns }

theorem State.foldl_activate_withVoices (vs : Vector Voice 16) (l : List Slot) (s : State) :
    (l.foldl State.activate s).withVoices vs = s.withVoices vs :=
  foldl_unchanged (f := State.activate) (g := (State.withVoices · vs))
    (fun _ _ => iteInduction (motive := fun t : State => t.withVoices vs = _) (fun _ => rfl) fun _ => rfl) l s

/-- The templates of a take, then the activations, then SCENE_SHORT (R83, R118). -/
theorem State.placeTemplates_eq {ts : List Template} {z active : State} {short : Vector Notice 17} {slots : List (Option Slot)}
    {skipped : Nat} (hz : ts.foldl placedState s = z) (hslots : placedSlots ts s = slots) (hskipped : slots.count none = skipped)
    (hactive : slots.reduceOption.foldl State.activate z = active)
    (hshort : (if skipped = 0 then z.notices else (z.raise .sceneShort skipped).notices) = short) :
    s.placeTemplates ts = (z.withVoices active.voices).withNotices short := by
  have hframe : active = z.withVoices active.voices := hactive ▸ State.foldl_activate_withVoices _ slots.reduceOption z
  have hfold : ts.foldl placeTemplate ⟨s, [], 0⟩ = ⟨z, slots.reduceOption, skipped⟩ :=
    hskipped ▸ hslots ▸ hz ▸ (foldl_placeTemplate ts s [] 0).trans (congrArg (Placement.mk _ _) (Nat.zero_add _))
  have heq : s.placeTemplates ts = if skipped = 0 then active else active.raise .sceneShort skipped :=
    hactive ▸ congrArg (fun a : Placement => if a.skipped = 0 then a.placed.foldl State.activate a.state
      else (a.placed.foldl State.activate a.state).raise .sceneShort a.skipped) hfold
  exact hshort ▸ heq.trans (.trans (ite_congr rfl (fun _ => hframe) fun _ => congrArg (State.raise · .sceneShort skipped) hframe)
    (apply_ite (State.withNotices (z.withVoices active.voices)) _ _ _).symm)

theorem State.foldl_activate_get {active : State} {l : List Slot} (hactive : l.foldl State.activate s = active) (i : Slot) :
    active.voices[i] = if i ∈ l then (activatedView (s.lanes, s.voices[i])).2 else s.voices[i] :=
  hactive ▸ (congrArg Prod.snd (foldl_at (.inr fun _ => activatedView_twice) (g := fun s i => (s.lanes, s.voices[i])) State.activate_view s i)).trans (apply_ite Prod.snd _ _ _)

/-! ### The tag check (R49) -/

theorem clearTag_held (htags : TagLaw s) {t : Template} {i : Slot} (hi : HoldsTag s t.lane t.tag i)
    (hstate : s.voices[i].state ≠ .releasing) : clearTag s t = none := by
  generalize hholder : tagHolder s t.lane t.tag = o
  induction o with
  | none => exact absurd hi (tagHolder_eq_none_iff.1 hholder i)
  | some j =>
    obtain rfl := (tagLaw_iff s).1 htags _ _ i j hi (tagHolder_eq_some_iff.1 hholder).1
    exact (clearTag_of hholder).trans (if_neg hstate)

theorem clearTag_released {t : Template} {v : State} (hreleasing : ∀ i, HoldsTag s t.lane t.tag i → s.voices[i].state = .releasing)
    (hunused : (∀ i, ¬HoldsTag s t.lane t.tag i) → v = s)
    (hkilled : ∀ i, HoldsTag s t.lane t.tag i → v = s.applyEntry (.retire { slot := i, generation := s.voices[i].generation } .kill)) :
    clearTag s t = some v := by
  generalize hholder : tagHolder s t.lane t.tag = o
  induction o with
  | none => exact (clearTag_of hholder).trans (congrArg some (hunused (tagHolder_eq_none_iff.1 hholder)).symm)
  | some i =>
    have hi := (tagHolder_eq_some_iff.1 hholder).1
    exact (clearTag_of hholder).trans ((if_pos (hreleasing i hi)).trans
      (congrArg some ((hkilled i hi).trans ((if_pos (both_of_and ⟨hi.1, rfl⟩)).trans (if_neg hi.1))).symm))

theorem settledLane_tracking {l : Lane} {st : LaneSettings} (hon : l.settings.on = st.on) : (settledLane l st).tracking = l.tracking :=
  (congrArg Lane.tracking ((settledLane_eq l st).trans (if_pos hon)) :)

/-! ### What a take does, step by step -/

/-- The lanes after a take (R116). -/
noncomputable def LanesTaken (s t : State) (sc : Scene) : Prop := ∀ k : LaneId,
  t.lanes[k].settings = takenSettings sc.lanes[k] ∧ t.lanes[k].chars = s.lanes[k].chars ∧
    (s.lanes[k].settings.on = sc.lanes[k].on → t.lanes[k].tracking = s.lanes[k].tracking)

/-- Each outgoing voice of `m` is released in `vs`, the reserved among them are freed, and the others are as they were (R67). -/
noncomputable def VoicesReleased (m : State) (vs : Vector Voice 16) (outgoing reserved : Slot → Prop) : Prop :=
  ∀ i : Slot, (¬outgoing i → vs[i] = m.voices[i]) ∧
    (reserved i → vs[i].state = .free ∧ vs[i].generation = m.voices[i].generation) ∧
    (outgoing i → ¬reserved i → vs[i] = { m.voices[i] with state := .releasing, levelTarget := 0 })

/-- VOICE_FREED is raised in `ns` for each reserved voice of `m`, and no other notice. -/
noncomputable def FreedNoted (m : State) (ns : Vector Notice 17) (reserved : Slot → Prop) [DecidablePred reserved] : Prop :=
  (∀ kind : Fin 17, kind ≠ 6 ∨ (∀ i, ¬reserved i) → ns[kind] = m.notices[kind]) ∧
  ((∃ i, reserved i) → ns[(6 : Fin 17)].count = min 255 (m.notices[(6 : Fin 17)].count +
    (m.ageList.filter fun i => decide (reserved i)).length))

/-- The outgoing voices of `m` are retired in `w`, the reserved among them freed (R67, R117). -/
noncomputable def VoicesRetired (m w : State) (outgoing reserved : Slot → Prop) [DecidablePred outgoing] [DecidablePred reserved] : Prop :=
  ∃ (vs : Vector Voice 16) (ns : Vector Notice 17), w =
      { m with
        voices := vs, notices := ns
        ageList := m.ageList.filter fun i => decide (¬reserved i)
        releaseList := m.releaseList ++ m.ageList.filter fun i => decide (outgoing i) && decide (¬reserved i) } ∧
    VoicesReleased m vs outgoing reserved ∧ FreedNoted m ns reserved

noncomputable def OutgoingRetired (m w : State) (mode : TakeMode) : Prop :=
  VoicesRetired m w (Outgoing m mode) fun i => Outgoing m mode i ∧ m.voices[i].state = .pending

/-- A template of a take brings `u` to `u'`, with its slot (R49, R83). -/
noncomputable def TemplateTaken (u u' : State) (tpl : Template) (slot : Option (Option Slot)) : Prop :=
  let holds : Slot → Prop := fun i => u.voices[i].state ≠ .free ∧ u.voices[i].template.lane = tpl.lane ∧
    u.voices[i].template.tag = tpl.tag
  ((∃ i, holds i ∧ u.voices[i].state ≠ .releasing) → u' = u ∧ slot = some none) ∧
  (∀ v : State, (∀ i, holds i → u.voices[i].state = .releasing) → ((∀ i, ¬holds i) → v = u) →
    (∀ i, holds i → v = u.applyEntry (.retire { slot := i, generation := u.voices[i].generation } .kill)) →
    (obtainSlot v = none → u' = v ∧ slot = some none) ∧
    (∀ i w, obtainSlot v = some (i, w) → slot = some (some i) ∧ u' = w.allocate i .scene tpl))

/-- A placed voice, started on the lanes of `m` (R50). -/
noncomputable def startedVoice (m : State) (v : Voice) : Voice :=
  if m.lanes[v.template.lane].tracking = .locked ∨ m.lanes[v.template.lane].tracking = .hold then
    { v with state := .active, fresh := true } else { v with state := .acquiring }

/-- The notices after a take: SCENE_SHORT when templates were skipped, then SCENE_TAKEN (R118, R119). -/
noncomputable def NoticesRaised (before after : Vector Notice 17) (scene skipped : Nat) : Prop :=
  (∀ kind : Fin 17, kind ≠ 8 → kind ≠ 9 → after[kind] = before[kind]) ∧
  after[(8 : Fin 17)] = raiseNotice before[(8 : Fin 17)] scene ∧
  after[(9 : Fin 17)] = if skipped = 0 then before[(9 : Fin 17)] else raiseNotice before[(9 : Fin 17)] skipped

noncomputable def State.ended (z : State) (vs : Vector Voice 16) (ns : Vector Notice 17) (n : SceneId) : State :=
  { z with voices := vs, notices := ns, currentScene := some n }

/-- The placed voices activated, and the notices (R50, R118, R119). -/
noncomputable def TakeEnded (m z t : State) (n : SceneId) (sc : Scene) (slots : List (Option Slot)) (skipped : Nat) : Prop :=
  ∃ (vs : Vector Voice 16) (ns : Vector Notice 17), t = z.ended vs ns n ∧
    (∀ i : Slot, (some i ∉ slots → vs[i] = z.voices[i]) ∧ (some i ∈ slots → vs[i] = startedVoice m z.voices[i])) ∧
    (∀ j, (h : j < sc.templates.length) → ∀ i, slots[j]? = some (some i) → Placed sc.templates[j] z.voices[i]) ∧
    NoticesRaised z.notices ns n.val skipped

/-- What a take leaves as it was (R115). -/
noncomputable def RestKept (s m t : State) (sc : Scene) : Prop :=
  t.keyMap = sc.keyMap ∧ t.mixers = m.mixers ∧ t.queue = s.queue ∧ t.cue = s.cue ∧ t.link = s.link ∧ t.chord = s.chord ∧
    t.scenes = s.scenes ∧ t.setlist = s.setlist ∧ t.clock = s.clock ∧ t.port = s.port ∧ t.pedals = s.pedals

/-- The four parts of a take of the LOADED scene `sc`, from `s` to `t`, with the lanes taken in `m`. -/
noncomputable def SceneTaken (s m t : State) (n : SceneId) (sc : Scene) : Prop :=
  LanesTaken s t sc ∧ ∃ (u : Nat → State) (slots : List (Option Slot)), slots.length = sc.templates.length ∧
    OutgoingRetired m (u 0) sc.takeMode ∧
    (∀ (j : Nat) (h : j < sc.templates.length), TemplateTaken (u j) (u (j + 1)) sc.templates[j] slots[j]?) ∧
    (∀ (z : State) (skipped : Nat), z = u sc.templates.length → skipped = slots.count none → TakeEnded m z t n sc slots skipped) ∧
    RestKept s m t sc

noncomputable def SceneTakes (s : State) (n : SceneId) : Prop :=
  (s.scenes[n] = none → s.applyEntry (.take n) = s.raise .takeFailed n.val) ∧
  ∀ sc, s.scenes[n] = some sc → PoolLaw s → TagLaw s → SceneLegal sc → ∀ t m : State, t = s.applyEntry (.take n) →
    m = s.laned sc → SceneTaken s m t n sc

/-! ### The proof of each step -/

noncomputable def State.withPool (s : State) (vs : Vector Voice 16) (ns : Vector Notice 17) (al rl : List Slot) : State :=
  { s with voices := vs, notices := ns, ageList := al, releaseList := rl }

theorem State.foldl_releaseVoice_withPool (vs : Vector Voice 16) (ns : Vector Notice 17) (al rl : List Slot) (l : List Slot) (s : State) :
    (l.foldl State.releaseVoice s).withPool vs ns al rl = s.withPool vs ns al rl :=
  foldl_unchanged (f := State.releaseVoice) (g := (State.withPool · vs ns al rl)) (fun s _ =>
    State.releaseVoice_cases (P := fun t => t.withPool vs ns al rl = s.withPool vs ns al rl) (fun _ => rfl) (fun _ => rfl) fun _ => rfl) l s

section
variable {m w : State} {l : List Slot} {outgoing reserved : Slot → Prop} (hres : ∀ i : Slot, reserved i ↔ outgoing i ∧ m.voices[i].state = .pending)
include hres

theorem voicesReleased (hvoice : ∀ i : Slot, w.voices[i] = if i ∈ l then releasedVoice m.voices[i] else m.voices[i])
    (hout : ∀ i, i ∈ l ↔ outgoing i) (hstate : ∀ i : Slot, outgoing i → m.voices[i].state ≠ .free ∧ m.voices[i].state ≠ .releasing) :
    VoicesReleased m w.voices outgoing reserved := fun i => by
  refine ⟨fun hi => (hvoice i).trans (if_neg (mt (hout i).1 hi)), fun hi => ?_, fun hi hkept => ?_⟩
  · obtain ⟨hi, hp⟩ := (hres i).1 hi
    have hfree : w.voices[i] = .freeSlot m.voices[i].generation := (hvoice i).trans ((if_pos ((hout i).2 hi)).trans (releasedVoice_of hp))
    exact ⟨congrArg Voice.state hfree, (congrArg Voice.generation hfree :)⟩
  · exact (hvoice i).trans ((if_pos ((hout i).2 hi)).trans
      (releasedVoice_of_acts (fun hp => hkept ((hres i).2 ⟨hi, hp⟩)) (hstate i hi).1 (hstate i hi).2))

variable [DecidablePred reserved]

theorem freedNoted (hage : ∀ i, outgoing i → i ∈ m.ageList) {L : List Slot} (hL : (m.ageList.filter fun i => decide (reserved i)) = L)
    {ns : Vector Notice 17} (hns : ns = (L.foldl (fun (u : State) (i : Slot) => u.raise .voiceFreed i) m).notices) :
    FreedNoted m ns reserved := by
  refine hns ▸ ⟨fun kind hkind => ?_, fun ⟨i, hi⟩ => ?_⟩
  · obtain hne | hnone := hkind
    · exact foldl_unchanged (f := fun (u : State) (i : Slot) => u.raise .voiceFreed i) (g := fun u => u.notices[kind])
        (fun u i => (u.raise_get .voiceFreed i kind).trans (if_neg hne.symm)) L m
    · have hempty : L = [] := hL ▸ List.filter_eq_nil_iff.2 fun i _ hi => hnone i (of_decide_eq_true hi)
      exact hempty ▸ rfl
  · have hi : i ∈ L := hL ▸ List.mem_filter.2 ⟨hage i ((hres i).1 hi).1, decide_eq_true hi⟩
    obtain ⟨L', last, rfl⟩ := (List.eq_nil_or_concat' L).resolve_left (List.ne_nil_of_mem hi)
    rw [hL]
    exact (State.foldl_raise_freedCount L' last m).trans (congrArg (fun n => min 255 (freedCount m + n)) (List.length_append (bs := [last])).symm)

variable [DecidablePred outgoing]

theorem voicesRetired (hpool : PoolLaw m) (hw : l.foldl State.releaseVoice m = w)
    (hl : l = m.ageList.filter fun i => decide (outgoing i)) (hout : ∀ i, i ∈ l ↔ outgoing i)
    (hstate : ∀ i : Slot, outgoing i → m.voices[i].state ≠ .free ∧ m.voices[i].state ≠ .releasing) : VoicesRetired m w outgoing reserved := by
  have hnodup : l.Nodup := hl ▸ hpool.1.filter _
  have hpending (i : Slot) (hi : i ∈ l) : reserved i ↔ m.voices[i].state = .pending := (hres i).trans (and_iff_right ((hout i).1 hi))
  have hreserved : (l.filter fun i => decide (reserved i)) = m.ageList.filter fun i => decide (reserved i) :=
    hl ▸ List.filter_filter.trans (List.filter_congr fun i _ => (Bool.decide_and _ _).symm.trans
      (decide_eq_decide.2 (and_iff_left_of_imp fun hi => ((hres i).1 hi).1)))
  have hfreed {α : Type} {g : State → α} {f : α → Slot → α} (hfrees : ∀ (u : State) (i : Slot), g ((u.freeVoice i).raise .voiceFreed i) = f (g u) i)
      (hreleases : ∀ (u : State) (i : Slot), g (u.toReleasing i) = g u) :
      g w = (m.ageList.filter fun i => decide (reserved i)).foldl f (g m) := hw ▸ hreserved ▸ State.foldl_releaseVoice_freed hnodup hpool
    (fun i hi => decide_eq_true_iff.trans (hpending i hi)) hfrees hreleases
  have hage : w.ageList = m.ageList.filter fun i => decide (¬reserved i) :=
    (hfreed (g := State.ageList) (f := fun a i => a.filter (· ≠ i)) (fun _ _ => rfl) fun _ _ => rfl).trans
      ((foldl_filter_ne _ _).trans (List.filter_congr fun i hi => decide_eq_decide.2 (not_congr
        (List.mem_filter.trans ((and_iff_right hi).trans decide_eq_true_iff)))))
  have hrelease : w.releaseList = m.releaseList ++ m.ageList.filter fun i => decide (outgoing i) && decide (¬reserved i) := by
    refine hw ▸ (State.foldl_releaseVoice_releaseList hnodup hpool (P := fun i => decide (¬reserved i)) fun i hi => ?_).trans
      (congrArg _ (hl ▸ List.filter_filter.trans (List.filter_congr fun _ _ => Bool.and_comm _ _)))
    exact decide_eq_true_iff.trans ((not_congr (hpending i hi)).trans ((acts_iff (hstate i ((hout i).1 hi)).1).trans
      (and_iff_left (hstate i ((hout i).1 hi)).2).symm))
  have hframe : w = m.withPool w.voices w.notices w.ageList w.releaseList := hw ▸ State.foldl_releaseVoice_withPool _ _ _ _ l m
  exact ⟨w.voices, w.notices, hframe.trans (congrArg₂ (m.withPool w.voices w.notices) hage hrelease),
    voicesReleased hres (fun i => hw ▸ State.foldl_releaseVoice_get hnodup m i) hout hstate,
    freedNoted hres (fun i hi => (List.mem_filter.1 (hl ▸ (hout i).2 hi)).1) rfl
      ((hfreed (g := State.notices) (f := fun ns i => ns.set 6 (raiseNotice ns[(6 : Fin 17)] i.val)) (fun _ _ => rfl)
        fun _ _ => rfl).trans (List.foldl_hom State.notices (g₁ := fun (u : State) (i : Slot) => u.raise .voiceFreed i) fun _ _ => rfl))⟩

end

theorem outgoingRetired {m w : State} {mode : TakeMode} (hpool : PoolLaw m) (hw : m.retireOutgoing mode = w) : OutgoingRetired m w mode :=
  voicesRetired (fun _ => .rfl) hpool hw (agedWhere_outgoing m _) (mem_outgoing_iff hpool) fun _ hi => ⟨hi.1, hi.2.1⟩

theorem templateTaken {u : State} (htags : TagLaw u) (tpl : Template) :
    TemplateTaken u (placedState u tpl) tpl (some (placedSlot u tpl)) := by
  have alone {a : Placement} (ha : placeTemplate ⟨u, [], 0⟩ tpl = a) :
      placedState u tpl = a.state ∧ some (placedSlot u tpl) = some a.placed.head? :=
    ⟨congrArg Placement.state ha, congrArg (fun a : Placement => some a.placed.head?) ha⟩
  refine ⟨fun ⟨i, hi, hstate⟩ => alone (placeTemplate_held (clearTag_held htags hi hstate)), fun v hreleasing hunused hkilled => ?_⟩
  have hclear : clearTag u tpl = some v := clearTag_released hreleasing hunused hkilled
  exact ⟨fun hfull => alone (placeTemplate_full hclear hfull), fun i w hgets => (alone (placeTemplate_placed hclear hgets)).symm⟩

theorem noticesRaised {before short after : Vector Notice 17} {scene skipped : Nat}
    (hshort : (if ¬skipped = 0 then before.set 9 (raiseNotice before[(9 : Fin 17)] skipped) else before) = short)
    (hafter : short.set 8 (raiseNotice short[(8 : Fin 17)] scene) = after) : NoticesRaised before after scene skipped := by
  have hset : (∀ j : Fin 17, j ≠ 9 → short.get j = before.get j) ∧ short.get 9 = _ :=
    hshort ▸ ite_set_get before 9 (raiseNotice before[(9 : Fin 17)] skipped)
  have hraised : NoticesRaised before (short.set 8 (raiseNotice short[(8 : Fin 17)] scene)) scene skipped :=
    ⟨fun kind hne hne' => (Vector.getElem_set_ne _ _ fun h => hne (Fin.ext h.symm)).trans (hset.1 kind hne'),
      (Vector.getElem_set_self _).trans (congrArg (raiseNotice · scene) (hset.1 8 (by decide))),
      (Vector.getElem_set_ne (i := 8) (j := 9) _ _ (by decide)).trans (hset.2.trans (ite_not _ _ _))⟩
  exact hafter ▸ hraised

theorem activatedView_of_pending {m : State} {lanes : Vector Lane 4} {v : Voice} (hlanes : lanes = m.lanes) (hpending : v.state = .pending) :
    (activatedView (lanes, v)).2 = startedVoice m v :=
  hlanes ▸ (if_pos hpending).trans (activated_eq _ v)

section
variable {m z t active : State} {n : SceneId} {sc : Scene} {slots : List (Option Slot)} {skipped : Nat} {ns : Vector Notice 17}

theorem takeEnded (ht : t = z.ended active.voices ns n)
    (hactive : slots.reduceOption.foldl State.activate z = active) (hlanes : z.lanes = m.lanes)
    (hplaced : ∀ j, (h : j < sc.templates.length) → ∀ i, slots[j]? = some (some i) → Placed sc.templates[j] z.voices[i])
    (hpending : ∀ i : Slot, some i ∈ slots → z.voices[i].state = .pending) (hns : NoticesRaised z.notices ns n.val skipped) :
    TakeEnded m z t n sc slots skipped := by
  refine ⟨active.voices, ns, ht, fun i => ?_, hplaced, hns⟩
  have hvoice := State.foldl_activate_get hactive i
  exact ⟨fun hi => hvoice.trans (if_neg (mt List.reduceOption_mem_iff.1 hi)), fun hi => hvoice.trans
    ((if_pos (List.reduceOption_mem_iff.2 hi)).trans (activatedView_of_pending hlanes (hpending i hi)))⟩

end

section
variable {s m w z t : State} {n : SceneId} {sc : Scene}

theorem restKept {vs : Vector Voice 16} {ns : Vector Notice 17} (ht : t = z.ended vs ns n)
    (hzm : z.unpooled = m.unpooled)
    (hm : s.laned sc = m) : RestKept s m t sc := by
  have hzs : z.unlaned = { s with keyMap := sc.keyMap }.unlaned :=
    (congrArg (fun u : State => { u with lanes := State.reset.lanes, mixers := State.reset.mixers }) hzm).trans
      (hm ▸ State.takeLanes_unlaned _ sc.lanes)
  rw [ht]
  exact ⟨(congrArg State.keyMap hzs :), (congrArg State.mixers hzm :), (congrArg State.queue hzs :),
    (congrArg State.cue hzs :), (congrArg State.link hzs :), (congrArg State.chord hzs :), (congrArg State.scenes hzs :),
    (congrArg State.setlist hzs :), (congrArg State.clock hzs :), (congrArg State.port hzs :), (congrArg State.pedals hzs :)⟩

theorem lanesTaken (hlanes : t.lanes = (s.cleared sc).lanes) : LanesTaken s t sc := fun k => by
  have hlane : t.lanes[k] = settledLane s.lanes[k] (takenSettings sc.lanes[k]) :=
    (congrArg (fun ls : Vector Lane 4 => ls[k]) hlanes).trans (s.cleared_lane sc k)
  exact hlane ▸ ⟨rfl, settledLane_chars _ _, fun hon => settledLane_tracking (st := takenSettings sc.lanes[k]) hon⟩

end

/-- Every voice that a template has placed is as it was placed when the templates are through. -/
theorem placed_of_placedSlots {w : State} {ts : List Template} (hpool : PoolLaw w)
    (legal : ∀ t ∈ ts, TemplateLegal t ∧ w.lanes[t.lane].settings.on = true) {j : Nat} (h : j < ts.length) {i : Slot}
    (hi : (placedSlots ts w)[j]? = some (some i)) : Placed ts[j] (ts.foldl placedState w).voices[i] := by
  induction ts generalizing w j with
  | nil => exact absurd h (Nat.not_lt_zero j)
  | cons t ts ih =>
    have hkeeps := (Keeps.refl w).placedState t fun _ => legal t (.head ts)
    have hrest : ∀ x ∈ ts, TemplateLegal x ∧ (placedState w t).lanes[x.lane].settings.on = true := fun x hx =>
      (lanes_of_unpooled (placedState_unpooled w t)).symm ▸ legal x (.tail t hx)
    induction j with
    | zero =>
      have hnow := placedState_placed (Option.some.inj hi)
      exact foldl_placedState_pendingKept (hkeeps.poolLaw hpool) hrest i hnow.2.2 ▸ hnow
    | succ j => exact ih (hkeeps.poolLaw hpool) hrest (Nat.lt_of_succ_lt_succ h) hi

theorem sceneTaken {s m w z t active : State} {n : SceneId} {sc : Scene} {slots : List (Option Slot)} {short ns : Vector Notice 17}
    (hpool : PoolLaw s) (htags : TagLaw s) (hlegal : SceneLegal sc) (hm : s.laned sc = m)
    (hw : s.cleared sc = w) (hz : sc.templates.foldl placedState w = z) (hslots : placedSlots sc.templates w = slots)
    (hactive : slots.reduceOption.foldl State.activate z = active)
    (hshort : (if slots.count none = 0 then z.notices else (z.raise .sceneShort (slots.count none)).notices) = short)
    (hns : short.set 8 (raiseNotice short[(8 : Fin 17)] n.val) = ns) (ht : t = s.taken n sc) : SceneTaken s m t n sc := by
  have hpoolm : PoolLaw m := hm ▸ ((Keeps.refl s).laned fun _ => hlegal).poolLaw hpool
  have hkeeps : Keeps s w := hw ▸ (Keeps.refl s).cleared fun _ => hlegal
  have legal : ∀ x ∈ sc.templates, TemplateLegal x ∧ w.lanes[x.lane].settings.on = true := hw ▸ hlegal.templatesLegal s
  have hframe : t = z.ended active.voices ns n :=
    hns ▸ ht.trans (congrArg (fun u : State => { u with currentScene := some n }.raise .sceneTaken n.val)
      ((congrArg (State.placeTemplates · sc.templates) hw).trans (State.placeTemplates_eq hz hslots rfl hactive hshort)))
  have hzw : z.unpooled = w.unpooled := hz ▸ foldl_unchanged placedState_unpooled _ w
  have hlanes : z.lanes = (s.cleared sc).lanes := hw ▸ lanes_of_unpooled hzw
  have hretired : m.retireOutgoing sc.takeMode = w := hm ▸ hw
  have hzm : z.unpooled = m.unpooled := hzw.trans (hretired ▸ m.retireOutgoing_unpooled sc.takeMode)
  have hplaced (j : Nat) (h : j < sc.templates.length) (i : Slot) (hi : slots[j]? = some (some i)) : Placed sc.templates[j] z.voices[i] :=
    hz ▸ placed_of_placedSlots (hkeeps.poolLaw hpool) legal h (hslots ▸ hi)
  have hlength : slots.length = sc.templates.length := hslots ▸ length_placedSlots _ w
  have hpending (i : Slot) (hi : some i ∈ slots) : z.voices[i].state = .pending := by
    obtain ⟨j, hj⟩ := List.mem_iff_getElem?.1 hi
    exact (hplaced j (hlength ▸ (List.getElem?_eq_some_iff.1 hj).1) i hj).2.2
  refine ⟨lanesTaken ((congrArg State.lanes hframe :).trans hlanes), placedAfter w sc.templates, slots,
    hlength, outgoingRetired hpoolm hretired, fun j h => ?_, fun z' skipped hz' hskipped => ?_,
    restKept hframe hzm hm⟩
  · have htagsj : TagLaw (placedAfter w sc.templates j) :=
      ((Keeps.refl w).foldl_placedState fun _ x hx => legal x (List.mem_of_mem_take hx)).tagLaw (hkeeps.tagLaw htags)
    rw [placedAfter_succ h, ← hslots, placedSlots_getElem? h]
    exact templateTaken htagsj _
  · obtain rfl : z' = z := hz'.trans (hz ▸ congrArg (List.foldl _ w) List.take_length)
    exact takeEnded hframe hactive (lanes_of_unpooled hzm) hplaced hpending
      (noticesRaised (hskipped ▸ (ite_not ..).trans hshort) hns)

theorem sceneTakes (s : State) (n : SceneId) : SceneTakes s n :=
  ⟨applyTake_of, fun _ hscene hpool htags hlegal _ _ ht hm =>
    sceneTaken hpool htags hlegal hm.symm rfl rfl rfl rfl rfl rfl (ht.trans (applyTake_of hscene))⟩

/-- Settles O41: the key map and the lanes, the outgoing voices, the templates one after another, the activations and the notices,
each step by its own lemma. -/
theorem takeApplied : Obligations.TakeApplied := sceneTakes

end Sys2Proof.Machine
end
